-- ==== Sys2Proof/Word.lean ====
section
/-! DEFINITION. The two widths of the machine (00_scope R5: `XLEN8` = 8, `XLEN16` = 16). -/

namespace Sys2Proof

/-- A register A to L, a memory cell, an opcode or an 8-bit immediate: 8 bits (R5, R10, R40). -/
abbrev Byte := BitVec 8

/-- PC, SP, a register pair or an address: 16 bits (R5, R10). -/
abbrev Word := BitVec 16

end Sys2Proof
end

