-- ==== Sys2Proof/Syntax.lean ====
section
/-! DEFINITION. The instructions: one constructor for each of the 256 rows of spec/opcode_table.json
(30_encoding R70), and the operand names that the encodings select (R12, R13, R65, R66). -/

namespace Sys2Proof

/-- The seven 8-bit registers (R10). -/
inductive Reg8 where
  | b | c | d | e | h | l | a
  deriving DecidableEq, Repr

/-- What a 3-bit field `ddd` or `sss` selects: a register, or M, the memory byte at HL (R12, R121). -/
inductive Operand8 where
  | reg (r : Reg8)
  | mem
  deriving DecidableEq, Repr

/-- What the 2-bit field `rp` selects in LXI, INX, DCX, DAD (R13). -/
inductive RegPair where
  | bc | de | hl | sp
  deriving DecidableEq, Repr

/-- What the 2-bit field `rp` selects in PUSH and POP (R13, R24). -/
inductive StackPair where
  | bc | de | hl | psw
  deriving DecidableEq, Repr

/-- The eight ALU operations of the field `alu` (R65). -/
inductive AluOp where
  | add | adc | sub | sbb | ana | xra | ora | cmp
  deriving DecidableEq, Repr

/-- The eight conditions of the field `ccc` (R66, R228). -/
inductive Cond where
  | nz | z | nc | c | po | pe | p | m
  deriving DecidableEq, Repr

/-- The instructions. A constructor carries the operand bytes of its encoding: `d8` or a port number
(format F2), `d16` or `a16` (format F3), nothing (format F1) (R61). The twelve `undef` constructors
are the byte values that select no instruction (R71); they stand last because Lean's compiled code numbers
a constructor that has fields below 245. -/
inductive Instr where
  /-- 0x00: NOP (R251) -/
  | nop
  /-- 0x01: LXI B,d16 (R145) -/
  | lxiB (d16 : Word)
  /-- 0x02: STAX B (R151) -/
  | staxB
  /-- 0x03: INX B (R176) -/
  | inxB
  /-- 0x04: INR B (R172) -/
  | inrB
  /-- 0x05: DCR B (R174) -/
  | dcrB
  /-- 0x06: MVI B,d8 (R143) -/
  | mviB (d8 : Byte)
  /-- 0x07: RLC (R202) -/
  | rlc
  /-- 0x09: DAD B (R178) -/
  | dadB
  /-- 0x0A: LDAX B (R150) -/
  | ldaxB
  /-- 0x0B: DCX B (R177) -/
  | dcxB
  /-- 0x0C: INR C (R172) -/
  | inrC
  /-- 0x0D: DCR C (R174) -/
  | dcrC
  /-- 0x0E: MVI C,d8 (R143) -/
  | mviC (d8 : Byte)
  /-- 0x0F: RRC (R203) -/
  | rrc
  /-- 0x11: LXI D,d16 (R145) -/
  | lxiD (d16 : Word)
  /-- 0x12: STAX D (R151) -/
  | staxD
  /-- 0x13: INX D (R176) -/
  | inxD
  /-- 0x14: INR D (R172) -/
  | inrD
  /-- 0x15: DCR D (R174) -/
  | dcrD
  /-- 0x16: MVI D,d8 (R143) -/
  | mviD (d8 : Byte)
  /-- 0x17: RAL (R204) -/
  | ral
  /-- 0x19: DAD D (R178) -/
  | dadD
  /-- 0x1A: LDAX D (R150) -/
  | ldaxD
  /-- 0x1B: DCX D (R177) -/
  | dcxD
  /-- 0x1C: INR E (R172) -/
  | inrE
  /-- 0x1D: DCR E (R174) -/
  | dcrE
  /-- 0x1E: MVI E,d8 (R143) -/
  | mviE (d8 : Byte)
  /-- 0x1F: RAR (R205) -/
  | rar
  /-- 0x21: LXI H,d16 (R145) -/
  | lxiH (d16 : Word)
  /-- 0x22: SHLD a16 (R149) -/
  | shld (a16 : Word)
  /-- 0x23: INX H (R176) -/
  | inxH
  /-- 0x24: INR H (R172) -/
  | inrH
  /-- 0x25: DCR H (R174) -/
  | dcrH
  /-- 0x26: MVI H,d8 (R143) -/
  | mviH (d8 : Byte)
  /-- 0x27: DAA (R179) -/
  | daa
  /-- 0x29: DAD H (R178) -/
  | dadH
  /-- 0x2A: LHLD a16 (R148) -/
  | lhld (a16 : Word)
  /-- 0x2B: DCX H (R177) -/
  | dcxH
  /-- 0x2C: INR L (R172) -/
  | inrL
  /-- 0x2D: DCR L (R174) -/
  | dcrL
  /-- 0x2E: MVI L,d8 (R143) -/
  | mviL (d8 : Byte)
  /-- 0x2F: CMA (R206) -/
  | cma
  /-- 0x31: LXI SP,d16 (R145) -/
  | lxiSP (d16 : Word)
  /-- 0x32: STA a16 (R147) -/
  | sta (a16 : Word)
  /-- 0x33: INX SP (R176) -/
  | inxSP
  /-- 0x34: INR M (R173) -/
  | inrM
  /-- 0x35: DCR M (R175) -/
  | dcrM
  /-- 0x36: MVI M,d8 (R144) -/
  | mviM (d8 : Byte)
  /-- 0x37: STC (R208) -/
  | stc
  /-- 0x39: DAD SP (R178) -/
  | dadSP
  /-- 0x3A: LDA a16 (R146) -/
  | lda (a16 : Word)
  /-- 0x3B: DCX SP (R177) -/
  | dcxSP
  /-- 0x3C: INR A (R172) -/
  | inrA
  /-- 0x3D: DCR A (R174) -/
  | dcrA
  /-- 0x3E: MVI A,d8 (R143) -/
  | mviA (d8 : Byte)
  /-- 0x3F: CMC (R207) -/
  | cmc
  /-- 0x40: MOV B,B (R140) -/
  | movBB
  /-- 0x41: MOV B,C (R140) -/
  | movBC
  /-- 0x42: MOV B,D (R140) -/
  | movBD
  /-- 0x43: MOV B,E (R140) -/
  | movBE
  /-- 0x44: MOV B,H (R140) -/
  | movBH
  /-- 0x45: MOV B,L (R140) -/
  | movBL
  /-- 0x46: MOV B,M (R141) -/
  | movBM
  /-- 0x47: MOV B,A (R140) -/
  | movBA
  /-- 0x48: MOV C,B (R140) -/
  | movCB
  /-- 0x49: MOV C,C (R140) -/
  | movCC
  /-- 0x4A: MOV C,D (R140) -/
  | movCD
  /-- 0x4B: MOV C,E (R140) -/
  | movCE
  /-- 0x4C: MOV C,H (R140) -/
  | movCH
  /-- 0x4D: MOV C,L (R140) -/
  | movCL
  /-- 0x4E: MOV C,M (R141) -/
  | movCM
  /-- 0x4F: MOV C,A (R140) -/
  | movCA
  /-- 0x50: MOV D,B (R140) -/
  | movDB
  /-- 0x51: MOV D,C (R140) -/
  | movDC
  /-- 0x52: MOV D,D (R140) -/
  | movDD
  /-- 0x53: MOV D,E (R140) -/
  | movDE
  /-- 0x54: MOV D,H (R140) -/
  | movDH
  /-- 0x55: MOV D,L (R140) -/
  | movDL
  /-- 0x56: MOV D,M (R141) -/
  | movDM
  /-- 0x57: MOV D,A (R140) -/
  | movDA
  /-- 0x58: MOV E,B (R140) -/
  | movEB
  /-- 0x59: MOV E,C (R140) -/
  | movEC
  /-- 0x5A: MOV E,D (R140) -/
  | movED
  /-- 0x5B: MOV E,E (R140) -/
  | movEE
  /-- 0x5C: MOV E,H (R140) -/
  | movEH
  /-- 0x5D: MOV E,L (R140) -/
  | movEL
  /-- 0x5E: MOV E,M (R141) -/
  | movEM
  /-- 0x5F: MOV E,A (R140) -/
  | movEA
  /-- 0x60: MOV H,B (R140) -/
  | movHB
  /-- 0x61: MOV H,C (R140) -/
  | movHC
  /-- 0x62: MOV H,D (R140) -/
  | movHD
  /-- 0x63: MOV H,E (R140) -/
  | movHE
  /-- 0x64: MOV H,H (R140) -/
  | movHH
  /-- 0x65: MOV H,L (R140) -/
  | movHL
  /-- 0x66: MOV H,M (R141) -/
  | movHM
  /-- 0x67: MOV H,A (R140) -/
  | movHA
  /-- 0x68: MOV L,B (R140) -/
  | movLB
  /-- 0x69: MOV L,C (R140) -/
  | movLC
  /-- 0x6A: MOV L,D (R140) -/
  | movLD
  /-- 0x6B: MOV L,E (R140) -/
  | movLE
  /-- 0x6C: MOV L,H (R140) -/
  | movLH
  /-- 0x6D: MOV L,L (R140) -/
  | movLL
  /-- 0x6E: MOV L,M (R141) -/
  | movLM
  /-- 0x6F: MOV L,A (R140) -/
  | movLA
  /-- 0x70: MOV M,B (R142) -/
  | movMB
  /-- 0x71: MOV M,C (R142) -/
  | movMC
  /-- 0x72: MOV M,D (R142) -/
  | movMD
  /-- 0x73: MOV M,E (R142) -/
  | movME
  /-- 0x74: MOV M,H (R142) -/
  | movMH
  /-- 0x75: MOV M,L (R142) -/
  | movML
  /-- 0x76: HLT (R250) -/
  | hlt
  /-- 0x77: MOV M,A (R142) -/
  | movMA
  /-- 0x78: MOV A,B (R140) -/
  | movAB
  /-- 0x79: MOV A,C (R140) -/
  | movAC
  /-- 0x7A: MOV A,D (R140) -/
  | movAD
  /-- 0x7B: MOV A,E (R140) -/
  | movAE
  /-- 0x7C: MOV A,H (R140) -/
  | movAH
  /-- 0x7D: MOV A,L (R140) -/
  | movAL
  /-- 0x7E: MOV A,M (R141) -/
  | movAM
  /-- 0x7F: MOV A,A (R140) -/
  | movAA
  /-- 0x80: ADD B (R160) -/
  | addB
  /-- 0x81: ADD C (R160) -/
  | addC
  /-- 0x82: ADD D (R160) -/
  | addD
  /-- 0x83: ADD E (R160) -/
  | addE
  /-- 0x84: ADD H (R160) -/
  | addH
  /-- 0x85: ADD L (R160) -/
  | addL
  /-- 0x86: ADD M (R161) -/
  | addM
  /-- 0x87: ADD A (R160) -/
  | addA
  /-- 0x88: ADC B (R163) -/
  | adcB
  /-- 0x89: ADC C (R163) -/
  | adcC
  /-- 0x8A: ADC D (R163) -/
  | adcD
  /-- 0x8B: ADC E (R163) -/
  | adcE
  /-- 0x8C: ADC H (R163) -/
  | adcH
  /-- 0x8D: ADC L (R163) -/
  | adcL
  /-- 0x8E: ADC M (R164) -/
  | adcM
  /-- 0x8F: ADC A (R163) -/
  | adcA
  /-- 0x90: SUB B (R166) -/
  | subB
  /-- 0x91: SUB C (R166) -/
  | subC
  /-- 0x92: SUB D (R166) -/
  | subD
  /-- 0x93: SUB E (R166) -/
  | subE
  /-- 0x94: SUB H (R166) -/
  | subH
  /-- 0x95: SUB L (R166) -/
  | subL
  /-- 0x96: SUB M (R167) -/
  | subM
  /-- 0x97: SUB A (R166) -/
  | subA
  /-- 0x98: SBB B (R169) -/
  | sbbB
  /-- 0x99: SBB C (R169) -/
  | sbbC
  /-- 0x9A: SBB D (R169) -/
  | sbbD
  /-- 0x9B: SBB E (R169) -/
  | sbbE
  /-- 0x9C: SBB H (R169) -/
  | sbbH
  /-- 0x9D: SBB L (R169) -/
  | sbbL
  /-- 0x9E: SBB M (R170) -/
  | sbbM
  /-- 0x9F: SBB A (R169) -/
  | sbbA
  /-- 0xA0: ANA B (R190) -/
  | anaB
  /-- 0xA1: ANA C (R190) -/
  | anaC
  /-- 0xA2: ANA D (R190) -/
  | anaD
  /-- 0xA3: ANA E (R190) -/
  | anaE
  /-- 0xA4: ANA H (R190) -/
  | anaH
  /-- 0xA5: ANA L (R190) -/
  | anaL
  /-- 0xA6: ANA M (R191) -/
  | anaM
  /-- 0xA7: ANA A (R190) -/
  | anaA
  /-- 0xA8: XRA B (R193) -/
  | xraB
  /-- 0xA9: XRA C (R193) -/
  | xraC
  /-- 0xAA: XRA D (R193) -/
  | xraD
  /-- 0xAB: XRA E (R193) -/
  | xraE
  /-- 0xAC: XRA H (R193) -/
  | xraH
  /-- 0xAD: XRA L (R193) -/
  | xraL
  /-- 0xAE: XRA M (R194) -/
  | xraM
  /-- 0xAF: XRA A (R193) -/
  | xraA
  /-- 0xB0: ORA B (R196) -/
  | oraB
  /-- 0xB1: ORA C (R196) -/
  | oraC
  /-- 0xB2: ORA D (R196) -/
  | oraD
  /-- 0xB3: ORA E (R196) -/
  | oraE
  /-- 0xB4: ORA H (R196) -/
  | oraH
  /-- 0xB5: ORA L (R196) -/
  | oraL
  /-- 0xB6: ORA M (R197) -/
  | oraM
  /-- 0xB7: ORA A (R196) -/
  | oraA
  /-- 0xB8: CMP B (R199) -/
  | cmpB
  /-- 0xB9: CMP C (R199) -/
  | cmpC
  /-- 0xBA: CMP D (R199) -/
  | cmpD
  /-- 0xBB: CMP E (R199) -/
  | cmpE
  /-- 0xBC: CMP H (R199) -/
  | cmpH
  /-- 0xBD: CMP L (R199) -/
  | cmpL
  /-- 0xBE: CMP M (R200) -/
  | cmpM
  /-- 0xBF: CMP A (R199) -/
  | cmpA
  /-- 0xC0: RNZ (R225) -/
  | rnz
  /-- 0xC1: POP B (R242) -/
  | popB
  /-- 0xC2: JNZ a16 (R221) -/
  | jnz (a16 : Word)
  /-- 0xC3: JMP a16 (R220) -/
  | jmp (a16 : Word)
  /-- 0xC4: CNZ a16 (R223) -/
  | cnz (a16 : Word)
  /-- 0xC5: PUSH B (R240) -/
  | pushB
  /-- 0xC6: ADI d8 (R162) -/
  | adi (d8 : Byte)
  /-- 0xC7: RST 0 (R226) -/
  | rst0
  /-- 0xC8: RZ (R225) -/
  | rz
  /-- 0xC9: RET (R224) -/
  | ret
  /-- 0xCA: JZ a16 (R221) -/
  | jz (a16 : Word)
  /-- 0xCC: CZ a16 (R223) -/
  | cz (a16 : Word)
  /-- 0xCD: CALL a16 (R222) -/
  | call (a16 : Word)
  /-- 0xCE: ACI d8 (R165) -/
  | aci (d8 : Byte)
  /-- 0xCF: RST 1 (R226) -/
  | rst1
  /-- 0xD0: RNC (R225) -/
  | rnc
  /-- 0xD1: POP D (R242) -/
  | popD
  /-- 0xD2: JNC a16 (R221) -/
  | jnc (a16 : Word)
  /-- 0xD3: OUT d8 (R247) -/
  | outPort (port : Byte)
  /-- 0xD4: CNC a16 (R223) -/
  | cnc (a16 : Word)
  /-- 0xD5: PUSH D (R240) -/
  | pushD
  /-- 0xD6: SUI d8 (R168) -/
  | sui (d8 : Byte)
  /-- 0xD7: RST 2 (R226) -/
  | rst2
  /-- 0xD8: RC (R225) -/
  | rc
  /-- 0xDA: JC a16 (R221) -/
  | jc (a16 : Word)
  /-- 0xDB: IN d8 (R246) -/
  | inPort (port : Byte)
  /-- 0xDC: CC a16 (R223) -/
  | cc (a16 : Word)
  /-- 0xDE: SBI d8 (R171) -/
  | sbi (d8 : Byte)
  /-- 0xDF: RST 3 (R226) -/
  | rst3
  /-- 0xE0: RPO (R225) -/
  | rpo
  /-- 0xE1: POP H (R242) -/
  | popH
  /-- 0xE2: JPO a16 (R221) -/
  | jpo (a16 : Word)
  /-- 0xE3: XTHL (R244) -/
  | xthl
  /-- 0xE4: CPO a16 (R223) -/
  | cpo (a16 : Word)
  /-- 0xE5: PUSH H (R240) -/
  | pushH
  /-- 0xE6: ANI d8 (R192) -/
  | ani (d8 : Byte)
  /-- 0xE7: RST 4 (R226) -/
  | rst4
  /-- 0xE8: RPE (R225) -/
  | rpe
  /-- 0xE9: PCHL (R227) -/
  | pchl
  /-- 0xEA: JPE a16 (R221) -/
  | jpe (a16 : Word)
  /-- 0xEB: XCHG (R152) -/
  | xchg
  /-- 0xEC: CPE a16 (R223) -/
  | cpe (a16 : Word)
  /-- 0xEE: XRI d8 (R195) -/
  | xri (d8 : Byte)
  /-- 0xEF: RST 5 (R226) -/
  | rst5
  /-- 0xF0: RP (R225) -/
  | rp
  /-- 0xF1: POP PSW (R243) -/
  | popPSW
  /-- 0xF2: JP a16 (R221) -/
  | jp (a16 : Word)
  /-- 0xF3: DI (R249) -/
  | di
  /-- 0xF4: CP a16 (R223) -/
  | cp (a16 : Word)
  /-- 0xF5: PUSH PSW (R241) -/
  | pushPSW
  /-- 0xF6: ORI d8 (R198) -/
  | ori (d8 : Byte)
  /-- 0xF7: RST 6 (R226) -/
  | rst6
  /-- 0xF8: RM (R225) -/
  | rm
  /-- 0xF9: SPHL (R245) -/
  | sphl
  /-- 0xFA: JM a16 (R221) -/
  | jm (a16 : Word)
  /-- 0xFB: EI (R248) -/
  | ei
  /-- 0xFC: CM a16 (R223) -/
  | cm (a16 : Word)
  /-- 0xFE: CPI d8 (R201) -/
  | cpi (d8 : Byte)
  /-- 0xFF: RST 7 (R226) -/
  | rst7
  /-- 0x08: (undefined) 0x08 (R71) -/
  | undef08
  /-- 0x10: (undefined) 0x10 (R71) -/
  | undef10
  /-- 0x18: (undefined) 0x18 (R71) -/
  | undef18
  /-- 0x20: (undefined) 0x20 (R71) -/
  | undef20
  /-- 0x28: (undefined) 0x28 (R71) -/
  | undef28
  /-- 0x30: (undefined) 0x30 (R71) -/
  | undef30
  /-- 0x38: (undefined) 0x38 (R71) -/
  | undef38
  /-- 0xCB: (undefined) 0xCB (R71) -/
  | undefCB
  /-- 0xD9: (undefined) 0xD9 (R71) -/
  | undefD9
  /-- 0xDD: (undefined) 0xDD (R71) -/
  | undefDD
  /-- 0xED: (undefined) 0xED (R71) -/
  | undefED
  /-- 0xFD: (undefined) 0xFD (R71) -/
  | undefFD
  deriving DecidableEq, Repr

end Sys2Proof
end

