-- ==== Sys2Proof/WellFormed.lean ====
section
/-! DEFINITION. Well-formed instructions: the 244 that 30_encoding R70 defines, not one of the twelve
undefined byte values of R71 (R73: every byte value is one or the other). Operand widths need no check:
the constructors' types hold them. -/

namespace Sys2Proof

/-- The instruction is one of the 244 defined ones (R73). -/
def Instr.wf : Instr → Bool
  | .undef08 => false
  | .undef10 => false
  | .undef18 => false
  | .undef20 => false
  | .undef28 => false
  | .undef30 => false
  | .undef38 => false
  | .undefCB => false
  | .undefD9 => false
  | .undefDD => false
  | .undefED => false
  | .undefFD => false
  | _ => true

end Sys2Proof
end

