-- ==== Sys2Proof/Decode.lean ====
section
/-! DEFINITION. Decoding, by the tree of 30_encoding R68, total on bytes and rejecting by name a list that is no
complete instruction; and the encoder, written from the other table, the list of R70. -/

namespace Sys2Proof

/-! ## Bytes and words -/

/-- `v[7:0]` (R7). -/
def loByte (v : Word) : Byte := v.extractLsb' 0 8

/-- `v[15:8]` (R7). -/
def hiByte (v : Word) : Byte := v.extractLsb' 8 8

/-- `(hi << 8) | lo` (R7, R13, R64). -/
def word16 (hi lo : Byte) : Word := hi ++ lo

/-! ## The fields of the opcode byte (R62) -/

/-- `x = op[7:6]`. -/
def fieldX (op : Byte) : Nat := op.toNat / 64

/-- `y = op[5:3]`, which carries `ddd`, `alu`, `ccc` or `nnn`. -/
def fieldY (op : Byte) : Nat := op.toNat / 8 % 8

/-- `z = op[2:0]`, which carries `sss`. -/
def fieldZ (op : Byte) : Nat := op.toNat % 8

/-- `p = op[5:4]`, which carries `rp`. -/
def fieldP (op : Byte) : Nat := op.toNat / 16 % 4

/-- `q = op[3]`. -/
def fieldQ (op : Byte) : Nat := op.toNat / 8 % 2

/-! ## The codes of the fields -/

/-- The code of an 8-bit register (R12). -/
def Reg8.code : Reg8 → Nat
  | .b => 0
  | .c => 1
  | .d => 2
  | .e => 3
  | .h => 4
  | .l => 5
  | .a => 7

/-- The code of an 8-bit operand: 6 is M (R12). -/
def Operand8.code : Operand8 → Nat
  | .reg r => r.code
  | .mem => 6

/-- The 8-bit operand of a 3-bit field (R12). -/
def Operand8.ofCode : Nat → Operand8
  | 0 => .reg .b
  | 1 => .reg .c
  | 2 => .reg .d
  | 3 => .reg .e
  | 4 => .reg .h
  | 5 => .reg .l
  | 6 => .mem
  | _ => .reg .a

/-- The code of a pair in LXI, INX, DCX, DAD (R13). -/
def RegPair.code : RegPair → Nat
  | .bc => 0
  | .de => 1
  | .hl => 2
  | .sp => 3

/-- The pair of a 2-bit field in LXI, INX, DCX, DAD (R13). -/
def RegPair.ofCode : Nat → RegPair
  | 0 => .bc
  | 1 => .de
  | 2 => .hl
  | _ => .sp

/-- The code of a pair in PUSH and POP (R13). -/
def StackPair.code : StackPair → Nat
  | .bc => 0
  | .de => 1
  | .hl => 2
  | .psw => 3

/-- The pair of a 2-bit field in PUSH and POP (R13). -/
def StackPair.ofCode : Nat → StackPair
  | 0 => .bc
  | 1 => .de
  | 2 => .hl
  | _ => .psw

/-- The code of an ALU operation (R65). -/
def AluOp.code : AluOp → Nat
  | .add => 0
  | .adc => 1
  | .sub => 2
  | .sbb => 3
  | .ana => 4
  | .xra => 5
  | .ora => 6
  | .cmp => 7

/-- The ALU operation of a 3-bit field (R65). -/
def AluOp.ofCode : Nat → AluOp
  | 0 => .add
  | 1 => .adc
  | 2 => .sub
  | 3 => .sbb
  | 4 => .ana
  | 5 => .xra
  | 6 => .ora
  | _ => .cmp

/-- The code of a condition (R66). -/
def Cond.code : Cond → Nat
  | .nz => 0
  | .z => 1
  | .nc => 2
  | .c => 3
  | .po => 4
  | .pe => 5
  | .p => 6
  | .m => 7

/-- The condition of a 3-bit field (R66). -/
def Cond.ofCode : Nat → Cond
  | 0 => .nz
  | 1 => .z
  | 2 => .nc
  | 3 => .c
  | 4 => .po
  | 5 => .pe
  | 6 => .p
  | _ => .m

/-! ## The instructions of a family, by their operands -/

/-- MOV ddd,sss; "0x76 would be MOV M,M; it is HLT instead" (R68, R140 to R142). -/
def Instr.ofMov : Operand8 → Operand8 → Instr
  | .reg .b, .reg .b => .movBB
  | .reg .b, .reg .c => .movBC
  | .reg .b, .reg .d => .movBD
  | .reg .b, .reg .e => .movBE
  | .reg .b, .reg .h => .movBH
  | .reg .b, .reg .l => .movBL
  | .reg .b, .mem => .movBM
  | .reg .b, .reg .a => .movBA
  | .reg .c, .reg .b => .movCB
  | .reg .c, .reg .c => .movCC
  | .reg .c, .reg .d => .movCD
  | .reg .c, .reg .e => .movCE
  | .reg .c, .reg .h => .movCH
  | .reg .c, .reg .l => .movCL
  | .reg .c, .mem => .movCM
  | .reg .c, .reg .a => .movCA
  | .reg .d, .reg .b => .movDB
  | .reg .d, .reg .c => .movDC
  | .reg .d, .reg .d => .movDD
  | .reg .d, .reg .e => .movDE
  | .reg .d, .reg .h => .movDH
  | .reg .d, .reg .l => .movDL
  | .reg .d, .mem => .movDM
  | .reg .d, .reg .a => .movDA
  | .reg .e, .reg .b => .movEB
  | .reg .e, .reg .c => .movEC
  | .reg .e, .reg .d => .movED
  | .reg .e, .reg .e => .movEE
  | .reg .e, .reg .h => .movEH
  | .reg .e, .reg .l => .movEL
  | .reg .e, .mem => .movEM
  | .reg .e, .reg .a => .movEA
  | .reg .h, .reg .b => .movHB
  | .reg .h, .reg .c => .movHC
  | .reg .h, .reg .d => .movHD
  | .reg .h, .reg .e => .movHE
  | .reg .h, .reg .h => .movHH
  | .reg .h, .reg .l => .movHL
  | .reg .h, .mem => .movHM
  | .reg .h, .reg .a => .movHA
  | .reg .l, .reg .b => .movLB
  | .reg .l, .reg .c => .movLC
  | .reg .l, .reg .d => .movLD
  | .reg .l, .reg .e => .movLE
  | .reg .l, .reg .h => .movLH
  | .reg .l, .reg .l => .movLL
  | .reg .l, .mem => .movLM
  | .reg .l, .reg .a => .movLA
  | .mem, .reg .b => .movMB
  | .mem, .reg .c => .movMC
  | .mem, .reg .d => .movMD
  | .mem, .reg .e => .movME
  | .mem, .reg .h => .movMH
  | .mem, .reg .l => .movML
  | .mem, .reg .a => .movMA
  | .reg .a, .reg .b => .movAB
  | .reg .a, .reg .c => .movAC
  | .reg .a, .reg .d => .movAD
  | .reg .a, .reg .e => .movAE
  | .reg .a, .reg .h => .movAH
  | .reg .a, .reg .l => .movAL
  | .reg .a, .mem => .movAM
  | .reg .a, .reg .a => .movAA
  | .mem, .mem => .hlt

/-- MVI ddd,d8 (R143, R144). -/
def Instr.ofMvi (d8 : Byte) : Operand8 → Instr
  | .reg .b => .mviB d8
  | .reg .c => .mviC d8
  | .reg .d => .mviD d8
  | .reg .e => .mviE d8
  | .reg .h => .mviH d8
  | .reg .l => .mviL d8
  | .mem => .mviM d8
  | .reg .a => .mviA d8

/-- INR ddd (R172, R173). -/
def Instr.ofInr : Operand8 → Instr
  | .reg .b => .inrB
  | .reg .c => .inrC
  | .reg .d => .inrD
  | .reg .e => .inrE
  | .reg .h => .inrH
  | .reg .l => .inrL
  | .mem => .inrM
  | .reg .a => .inrA

/-- DCR ddd (R174, R175). -/
def Instr.ofDcr : Operand8 → Instr
  | .reg .b => .dcrB
  | .reg .c => .dcrC
  | .reg .d => .dcrD
  | .reg .e => .dcrE
  | .reg .h => .dcrH
  | .reg .l => .dcrL
  | .mem => .dcrM
  | .reg .a => .dcrA

/-- The ALU operation on a register or M (R65, R68). -/
def Instr.ofAlu : AluOp → Operand8 → Instr
  | .add, .reg .b => .addB
  | .add, .reg .c => .addC
  | .add, .reg .d => .addD
  | .add, .reg .e => .addE
  | .add, .reg .h => .addH
  | .add, .reg .l => .addL
  | .add, .mem => .addM
  | .add, .reg .a => .addA
  | .adc, .reg .b => .adcB
  | .adc, .reg .c => .adcC
  | .adc, .reg .d => .adcD
  | .adc, .reg .e => .adcE
  | .adc, .reg .h => .adcH
  | .adc, .reg .l => .adcL
  | .adc, .mem => .adcM
  | .adc, .reg .a => .adcA
  | .sub, .reg .b => .subB
  | .sub, .reg .c => .subC
  | .sub, .reg .d => .subD
  | .sub, .reg .e => .subE
  | .sub, .reg .h => .subH
  | .sub, .reg .l => .subL
  | .sub, .mem => .subM
  | .sub, .reg .a => .subA
  | .sbb, .reg .b => .sbbB
  | .sbb, .reg .c => .sbbC
  | .sbb, .reg .d => .sbbD
  | .sbb, .reg .e => .sbbE
  | .sbb, .reg .h => .sbbH
  | .sbb, .reg .l => .sbbL
  | .sbb, .mem => .sbbM
  | .sbb, .reg .a => .sbbA
  | .ana, .reg .b => .anaB
  | .ana, .reg .c => .anaC
  | .ana, .reg .d => .anaD
  | .ana, .reg .e => .anaE
  | .ana, .reg .h => .anaH
  | .ana, .reg .l => .anaL
  | .ana, .mem => .anaM
  | .ana, .reg .a => .anaA
  | .xra, .reg .b => .xraB
  | .xra, .reg .c => .xraC
  | .xra, .reg .d => .xraD
  | .xra, .reg .e => .xraE
  | .xra, .reg .h => .xraH
  | .xra, .reg .l => .xraL
  | .xra, .mem => .xraM
  | .xra, .reg .a => .xraA
  | .ora, .reg .b => .oraB
  | .ora, .reg .c => .oraC
  | .ora, .reg .d => .oraD
  | .ora, .reg .e => .oraE
  | .ora, .reg .h => .oraH
  | .ora, .reg .l => .oraL
  | .ora, .mem => .oraM
  | .ora, .reg .a => .oraA
  | .cmp, .reg .b => .cmpB
  | .cmp, .reg .c => .cmpC
  | .cmp, .reg .d => .cmpD
  | .cmp, .reg .e => .cmpE
  | .cmp, .reg .h => .cmpH
  | .cmp, .reg .l => .cmpL
  | .cmp, .mem => .cmpM
  | .cmp, .reg .a => .cmpA

/-- The ALU operation on an immediate (R65, R68). -/
def Instr.ofAluImm (d8 : Byte) : AluOp → Instr
  | .add => .adi d8
  | .adc => .aci d8
  | .sub => .sui d8
  | .sbb => .sbi d8
  | .ana => .ani d8
  | .xra => .xri d8
  | .ora => .ori d8
  | .cmp => .cpi d8

/-- LXI rp,d16 (R145). -/
def Instr.ofLxi (d16 : Word) : RegPair → Instr
  | .bc => .lxiB d16
  | .de => .lxiD d16
  | .hl => .lxiH d16
  | .sp => .lxiSP d16

/-- INX rp (R176). -/
def Instr.ofInx : RegPair → Instr
  | .bc => .inxB
  | .de => .inxD
  | .hl => .inxH
  | .sp => .inxSP

/-- DCX rp (R177). -/
def Instr.ofDcx : RegPair → Instr
  | .bc => .dcxB
  | .de => .dcxD
  | .hl => .dcxH
  | .sp => .dcxSP

/-- DAD rp (R178). -/
def Instr.ofDad : RegPair → Instr
  | .bc => .dadB
  | .de => .dadD
  | .hl => .dadH
  | .sp => .dadSP

/-- PUSH rp, PUSH PSW (R240, R241). -/
def Instr.ofPush : StackPair → Instr
  | .bc => .pushB
  | .de => .pushD
  | .hl => .pushH
  | .psw => .pushPSW

/-- POP rp, POP PSW (R242, R243). -/
def Instr.ofPop : StackPair → Instr
  | .bc => .popB
  | .de => .popD
  | .hl => .popH
  | .psw => .popPSW

/-- Jcc a16 (R221). -/
def Instr.ofJcc (a16 : Word) : Cond → Instr
  | .nz => .jnz a16
  | .z => .jz a16
  | .nc => .jnc a16
  | .c => .jc a16
  | .po => .jpo a16
  | .pe => .jpe a16
  | .p => .jp a16
  | .m => .jm a16

/-- Ccc a16 (R223). -/
def Instr.ofCcc (a16 : Word) : Cond → Instr
  | .nz => .cnz a16
  | .z => .cz a16
  | .nc => .cnc a16
  | .c => .cc a16
  | .po => .cpo a16
  | .pe => .cpe a16
  | .p => .cp a16
  | .m => .cm a16

/-- Rcc (R225). -/
def Instr.ofRcc : Cond → Instr
  | .nz => .rnz
  | .z => .rz
  | .nc => .rnc
  | .c => .rc
  | .po => .rpo
  | .pe => .rpe
  | .p => .rp
  | .m => .rm

/-- RST n, for n from 0 to 7 (R226). -/
def Instr.ofRst : Nat → Instr
  | 0 => .rst0
  | 1 => .rst1
  | 2 => .rst2
  | 3 => .rst3
  | 4 => .rst4
  | 5 => .rst5
  | 6 => .rst6
  | _ => .rst7

/-! ## The decode tree (R68) -/

/-- The branch x = 0, z = 0: NOP and seven undefined values (R68, R71). -/
def decodeNopRow : Nat → Instr
  | 0 => .nop
  | 1 => .undef08
  | 2 => .undef10
  | 3 => .undef18
  | 4 => .undef20
  | 5 => .undef28
  | 6 => .undef30
  | _ => .undef38

/-- The branch x = 0, z = 2: the stores and loads through BC, DE and a direct address. -/
def decodeLoadStoreRow (a16 : Word) : Nat → Instr
  | 0 => .staxB
  | 1 => .ldaxB
  | 2 => .staxD
  | 3 => .ldaxD
  | 4 => .shld a16
  | 5 => .lhld a16
  | 6 => .sta a16
  | _ => .lda a16

/-- The branch x = 0, z = 7: rotates, DAA, complement and carry. -/
def decodeAccumulatorRow : Nat → Instr
  | 0 => .rlc
  | 1 => .rrc
  | 2 => .ral
  | 3 => .rar
  | 4 => .daa
  | 5 => .cma
  | 6 => .stc
  | _ => .cmc

/-- The branch x = 3, z = 1: POP, RET, PCHL, SPHL. -/
def decodePopRow (p q : Nat) : Instr :=
  match q, p with
  | 0, _ => .ofPop (.ofCode p)
  | _, 0 => .ret
  | _, 1 => .undefD9
  | _, 2 => .pchl
  | _, _ => .sphl

/-- The branch x = 3, z = 3: JMP, OUT, IN, XTHL, XCHG, DI, EI. -/
def decodeMiscRow (b2 : Byte) (a16 : Word) : Nat → Instr
  | 0 => .jmp a16
  | 1 => .undefCB
  | 2 => .outPort b2
  | 3 => .inPort b2
  | 4 => .xthl
  | 5 => .xchg
  | 6 => .di
  | _ => .ei

/-- The branch x = 3, z = 5: PUSH, CALL. -/
def decodePushRow (a16 : Word) (p q : Nat) : Instr :=
  match q, p with
  | 0, _ => .ofPush (.ofCode p)
  | _, 0 => .call a16
  | _, 1 => .undefDD
  | _, 2 => .undefED
  | _, _ => .undefFD

/-- The branch x = 0. -/
def decodeGroup0 (op b2 : Byte) (d16 : Word) : Instr :=
  match fieldZ op with
  | 0 => decodeNopRow (fieldY op)
  | 1 => if fieldQ op = 0 then .ofLxi d16 (.ofCode (fieldP op)) else .ofDad (.ofCode (fieldP op))
  | 2 => decodeLoadStoreRow d16 (fieldY op)
  | 3 => if fieldQ op = 0 then .ofInx (.ofCode (fieldP op)) else .ofDcx (.ofCode (fieldP op))
  | 4 => .ofInr (.ofCode (fieldY op))
  | 5 => .ofDcr (.ofCode (fieldY op))
  | 6 => .ofMvi b2 (.ofCode (fieldY op))
  | _ => decodeAccumulatorRow (fieldY op)

/-- The branch x = 3. -/
def decodeGroup3 (op b2 : Byte) (a16 : Word) : Instr :=
  match fieldZ op with
  | 0 => .ofRcc (.ofCode (fieldY op))
  | 1 => decodePopRow (fieldP op) (fieldQ op)
  | 2 => .ofJcc a16 (.ofCode (fieldY op))
  | 3 => decodeMiscRow b2 a16 (fieldY op)
  | 4 => .ofCcc a16 (.ofCode (fieldY op))
  | 5 => decodePushRow a16 (fieldP op) (fieldQ op)
  | 6 => .ofAluImm b2 (.ofCode (fieldY op))
  | _ => .ofRst (fieldY op)

/-- The instruction of an opcode byte, with the operand bytes that follow it: `imm8 = b2` (R63),
`imm16 = (b3 << 8) | b2` (R64). An instruction shorter than three bytes ignores the bytes it does not
have. -/
def decode (op b2 b3 : Byte) : Instr :=
  match fieldX op with
  | 0 => decodeGroup0 op b2 (word16 b3 b2)
  | 1 => .ofMov (.ofCode (fieldY op)) (.ofCode (fieldZ op))
  | 2 => .ofAlu (.ofCode (fieldY op)) (.ofCode (fieldZ op))
  | _ => decodeGroup3 op b2 (word16 b3 b2)

/-! ## Lengths and byte lists -/

/-- The opcodes of 3-byte instructions (R74): LXI; SHLD, LHLD, STA, LDA; JMP; CALL; Jcc; Ccc. -/
def opcodesOfLength3 : List Byte :=
  [0x01, 0x11, 0x21, 0x31, 0x22, 0x2A, 0x32, 0x3A, 0xC3, 0xCD] ++
  [0xC2, 0xCA, 0xD2, 0xDA, 0xE2, 0xEA, 0xF2, 0xFA, 0xC4, 0xCC, 0xD4, 0xDC, 0xE4, 0xEC, 0xF4, 0xFC]

/-- The opcodes of 2-byte instructions (R74): MVI; immediate ALU; OUT, IN. -/
def opcodesOfLength2 : List Byte :=
  [0x06, 0x0E, 0x16, 0x1E, 0x26, 0x2E, 0x36, 0x3E] ++
  [0xC6, 0xCE, 0xD6, 0xDE, 0xE6, 0xEE, 0xF6, 0xFE, 0xD3, 0xDB]

/-- The length function of an opcode (R74). -/
def opcodeLength (op : Byte) : Nat :=
  if opcodesOfLength3.contains op then 3 else if opcodesOfLength2.contains op then 2 else 1

/-- Why a list of bytes is no instruction. -/
inductive DecodeError where
  /-- There is no opcode byte. Raised by `decodeBytes` only; the machine's fetch always has its bytes. Safe. -/
  | noOpcode
  /-- An operand byte of the opcode is missing. Raised by `decodeBytes` only. Safe. -/
  | missingOperand (op : Byte)
  deriving DecidableEq, Repr

/-- What decoding a list of bytes gives: the instruction and the bytes after it, or a rejection. -/
inductive Decoded where
  | instr (i : Instr) (rest : List Byte)
  | rejected (why : DecodeError)
  deriving DecidableEq, Repr

/-- Decode the first instruction of a list of bytes, opcode first (R44, R60, R61). -/
def decodeBytes : List Byte → Decoded
  | [] => .rejected .noOpcode
  | op :: rest =>
    match opcodeLength op, rest with
    | 1, rest => .instr (decode op 0#8 0#8) rest
    | 2, b2 :: rest => .instr (decode op b2 0#8) rest
    | 3, b2 :: b3 :: rest => .instr (decode op b2 b3) rest
    | _, _ => .rejected (.missingOperand op)

/-! ## The encoder (R70) -/

/-- The bytes of an instruction, from the list of R70 and the formats of R61: F1 the opcode; F2 the opcode and
`d8`; F3 the opcode, the low byte and the high byte of the 16-bit operand. -/
def encode : Instr → List Byte
  | .nop => [0x00#8]
  | .lxiB d16 => [0x01#8, loByte d16, hiByte d16]
  | .staxB => [0x02#8]
  | .inxB => [0x03#8]
  | .inrB => [0x04#8]
  | .dcrB => [0x05#8]
  | .mviB d8 => [0x06#8, d8]
  | .rlc => [0x07#8]
  | .dadB => [0x09#8]
  | .ldaxB => [0x0A#8]
  | .dcxB => [0x0B#8]
  | .inrC => [0x0C#8]
  | .dcrC => [0x0D#8]
  | .mviC d8 => [0x0E#8, d8]
  | .rrc => [0x0F#8]
  | .lxiD d16 => [0x11#8, loByte d16, hiByte d16]
  | .staxD => [0x12#8]
  | .inxD => [0x13#8]
  | .inrD => [0x14#8]
  | .dcrD => [0x15#8]
  | .mviD d8 => [0x16#8, d8]
  | .ral => [0x17#8]
  | .dadD => [0x19#8]
  | .ldaxD => [0x1A#8]
  | .dcxD => [0x1B#8]
  | .inrE => [0x1C#8]
  | .dcrE => [0x1D#8]
  | .mviE d8 => [0x1E#8, d8]
  | .rar => [0x1F#8]
  | .lxiH d16 => [0x21#8, loByte d16, hiByte d16]
  | .shld a16 => [0x22#8, loByte a16, hiByte a16]
  | .inxH => [0x23#8]
  | .inrH => [0x24#8]
  | .dcrH => [0x25#8]
  | .mviH d8 => [0x26#8, d8]
  | .daa => [0x27#8]
  | .dadH => [0x29#8]
  | .lhld a16 => [0x2A#8, loByte a16, hiByte a16]
  | .dcxH => [0x2B#8]
  | .inrL => [0x2C#8]
  | .dcrL => [0x2D#8]
  | .mviL d8 => [0x2E#8, d8]
  | .cma => [0x2F#8]
  | .lxiSP d16 => [0x31#8, loByte d16, hiByte d16]
  | .sta a16 => [0x32#8, loByte a16, hiByte a16]
  | .inxSP => [0x33#8]
  | .inrM => [0x34#8]
  | .dcrM => [0x35#8]
  | .mviM d8 => [0x36#8, d8]
  | .stc => [0x37#8]
  | .dadSP => [0x39#8]
  | .lda a16 => [0x3A#8, loByte a16, hiByte a16]
  | .dcxSP => [0x3B#8]
  | .inrA => [0x3C#8]
  | .dcrA => [0x3D#8]
  | .mviA d8 => [0x3E#8, d8]
  | .cmc => [0x3F#8]
  | .movBB => [0x40#8]
  | .movBC => [0x41#8]
  | .movBD => [0x42#8]
  | .movBE => [0x43#8]
  | .movBH => [0x44#8]
  | .movBL => [0x45#8]
  | .movBM => [0x46#8]
  | .movBA => [0x47#8]
  | .movCB => [0x48#8]
  | .movCC => [0x49#8]
  | .movCD => [0x4A#8]
  | .movCE => [0x4B#8]
  | .movCH => [0x4C#8]
  | .movCL => [0x4D#8]
  | .movCM => [0x4E#8]
  | .movCA => [0x4F#8]
  | .movDB => [0x50#8]
  | .movDC => [0x51#8]
  | .movDD => [0x52#8]
  | .movDE => [0x53#8]
  | .movDH => [0x54#8]
  | .movDL => [0x55#8]
  | .movDM => [0x56#8]
  | .movDA => [0x57#8]
  | .movEB => [0x58#8]
  | .movEC => [0x59#8]
  | .movED => [0x5A#8]
  | .movEE => [0x5B#8]
  | .movEH => [0x5C#8]
  | .movEL => [0x5D#8]
  | .movEM => [0x5E#8]
  | .movEA => [0x5F#8]
  | .movHB => [0x60#8]
  | .movHC => [0x61#8]
  | .movHD => [0x62#8]
  | .movHE => [0x63#8]
  | .movHH => [0x64#8]
  | .movHL => [0x65#8]
  | .movHM => [0x66#8]
  | .movHA => [0x67#8]
  | .movLB => [0x68#8]
  | .movLC => [0x69#8]
  | .movLD => [0x6A#8]
  | .movLE => [0x6B#8]
  | .movLH => [0x6C#8]
  | .movLL => [0x6D#8]
  | .movLM => [0x6E#8]
  | .movLA => [0x6F#8]
  | .movMB => [0x70#8]
  | .movMC => [0x71#8]
  | .movMD => [0x72#8]
  | .movME => [0x73#8]
  | .movMH => [0x74#8]
  | .movML => [0x75#8]
  | .hlt => [0x76#8]
  | .movMA => [0x77#8]
  | .movAB => [0x78#8]
  | .movAC => [0x79#8]
  | .movAD => [0x7A#8]
  | .movAE => [0x7B#8]
  | .movAH => [0x7C#8]
  | .movAL => [0x7D#8]
  | .movAM => [0x7E#8]
  | .movAA => [0x7F#8]
  | .addB => [0x80#8]
  | .addC => [0x81#8]
  | .addD => [0x82#8]
  | .addE => [0x83#8]
  | .addH => [0x84#8]
  | .addL => [0x85#8]
  | .addM => [0x86#8]
  | .addA => [0x87#8]
  | .adcB => [0x88#8]
  | .adcC => [0x89#8]
  | .adcD => [0x8A#8]
  | .adcE => [0x8B#8]
  | .adcH => [0x8C#8]
  | .adcL => [0x8D#8]
  | .adcM => [0x8E#8]
  | .adcA => [0x8F#8]
  | .subB => [0x90#8]
  | .subC => [0x91#8]
  | .subD => [0x92#8]
  | .subE => [0x93#8]
  | .subH => [0x94#8]
  | .subL => [0x95#8]
  | .subM => [0x96#8]
  | .subA => [0x97#8]
  | .sbbB => [0x98#8]
  | .sbbC => [0x99#8]
  | .sbbD => [0x9A#8]
  | .sbbE => [0x9B#8]
  | .sbbH => [0x9C#8]
  | .sbbL => [0x9D#8]
  | .sbbM => [0x9E#8]
  | .sbbA => [0x9F#8]
  | .anaB => [0xA0#8]
  | .anaC => [0xA1#8]
  | .anaD => [0xA2#8]
  | .anaE => [0xA3#8]
  | .anaH => [0xA4#8]
  | .anaL => [0xA5#8]
  | .anaM => [0xA6#8]
  | .anaA => [0xA7#8]
  | .xraB => [0xA8#8]
  | .xraC => [0xA9#8]
  | .xraD => [0xAA#8]
  | .xraE => [0xAB#8]
  | .xraH => [0xAC#8]
  | .xraL => [0xAD#8]
  | .xraM => [0xAE#8]
  | .xraA => [0xAF#8]
  | .oraB => [0xB0#8]
  | .oraC => [0xB1#8]
  | .oraD => [0xB2#8]
  | .oraE => [0xB3#8]
  | .oraH => [0xB4#8]
  | .oraL => [0xB5#8]
  | .oraM => [0xB6#8]
  | .oraA => [0xB7#8]
  | .cmpB => [0xB8#8]
  | .cmpC => [0xB9#8]
  | .cmpD => [0xBA#8]
  | .cmpE => [0xBB#8]
  | .cmpH => [0xBC#8]
  | .cmpL => [0xBD#8]
  | .cmpM => [0xBE#8]
  | .cmpA => [0xBF#8]
  | .rnz => [0xC0#8]
  | .popB => [0xC1#8]
  | .jnz a16 => [0xC2#8, loByte a16, hiByte a16]
  | .jmp a16 => [0xC3#8, loByte a16, hiByte a16]
  | .cnz a16 => [0xC4#8, loByte a16, hiByte a16]
  | .pushB => [0xC5#8]
  | .adi d8 => [0xC6#8, d8]
  | .rst0 => [0xC7#8]
  | .rz => [0xC8#8]
  | .ret => [0xC9#8]
  | .jz a16 => [0xCA#8, loByte a16, hiByte a16]
  | .cz a16 => [0xCC#8, loByte a16, hiByte a16]
  | .call a16 => [0xCD#8, loByte a16, hiByte a16]
  | .aci d8 => [0xCE#8, d8]
  | .rst1 => [0xCF#8]
  | .rnc => [0xD0#8]
  | .popD => [0xD1#8]
  | .jnc a16 => [0xD2#8, loByte a16, hiByte a16]
  | .outPort port => [0xD3#8, port]
  | .cnc a16 => [0xD4#8, loByte a16, hiByte a16]
  | .pushD => [0xD5#8]
  | .sui d8 => [0xD6#8, d8]
  | .rst2 => [0xD7#8]
  | .rc => [0xD8#8]
  | .jc a16 => [0xDA#8, loByte a16, hiByte a16]
  | .inPort port => [0xDB#8, port]
  | .cc a16 => [0xDC#8, loByte a16, hiByte a16]
  | .sbi d8 => [0xDE#8, d8]
  | .rst3 => [0xDF#8]
  | .rpo => [0xE0#8]
  | .popH => [0xE1#8]
  | .jpo a16 => [0xE2#8, loByte a16, hiByte a16]
  | .xthl => [0xE3#8]
  | .cpo a16 => [0xE4#8, loByte a16, hiByte a16]
  | .pushH => [0xE5#8]
  | .ani d8 => [0xE6#8, d8]
  | .rst4 => [0xE7#8]
  | .rpe => [0xE8#8]
  | .pchl => [0xE9#8]
  | .jpe a16 => [0xEA#8, loByte a16, hiByte a16]
  | .xchg => [0xEB#8]
  | .cpe a16 => [0xEC#8, loByte a16, hiByte a16]
  | .xri d8 => [0xEE#8, d8]
  | .rst5 => [0xEF#8]
  | .rp => [0xF0#8]
  | .popPSW => [0xF1#8]
  | .jp a16 => [0xF2#8, loByte a16, hiByte a16]
  | .di => [0xF3#8]
  | .cp a16 => [0xF4#8, loByte a16, hiByte a16]
  | .pushPSW => [0xF5#8]
  | .ori d8 => [0xF6#8, d8]
  | .rst6 => [0xF7#8]
  | .rm => [0xF8#8]
  | .sphl => [0xF9#8]
  | .jm a16 => [0xFA#8, loByte a16, hiByte a16]
  | .ei => [0xFB#8]
  | .cm a16 => [0xFC#8, loByte a16, hiByte a16]
  | .cpi d8 => [0xFE#8, d8]
  | .rst7 => [0xFF#8]
  | .undef08 => [0x08#8]
  | .undef10 => [0x10#8]
  | .undef18 => [0x18#8]
  | .undef20 => [0x20#8]
  | .undef28 => [0x28#8]
  | .undef30 => [0x30#8]
  | .undef38 => [0x38#8]
  | .undefCB => [0xCB#8]
  | .undefD9 => [0xD9#8]
  | .undefDD => [0xDD#8]
  | .undefED => [0xED#8]
  | .undefFD => [0xFD#8]

/-- The opcode byte of an instruction. -/
def opcodeOf (i : Instr) : Byte := (encode i).headD 0#8

/-! ## Words of the opcode table -/

/-- Byte `k` of a word that is numbered as spec/opcode_table.json numbers it (bit 0 is the least significant
bit of the first byte), with every bit from `nbits` up read as 0. -/
def tableByte (nbits w k : Nat) : Byte := BitVec.ofNat 8 (w % 2 ^ nbits / 256 ^ k)

/-- The instruction that the decoder reads from a word of the opcode table. -/
def decodeTableWord (nbits w : Nat) : Option Instr :=
  match decodeBytes [tableByte nbits w 0, tableByte nbits w 1, tableByte nbits w 2] with
  | .instr i _ => some i
  | .rejected _ => none

end Sys2Proof
end

