-- ==== Sys2Proof/Machine/Cost.lean ====
section
/-! DEFINITION. `COST`, the number an instruction adds to cyc (70_reset_and_hazards R312): the default table, by opcode and,
for conditional instructions, by outcome. The spec leaves COST an OPEN parameter with this default; taking the default is a
DESIGN CHOICE (log entry 3), and nothing but cyc depends on it (R19). -/

namespace Sys2Proof.Machine

/-- The costs of the sixteen opcodes with one high digit, in the order of the low digit (R70's last column); for a
conditional instruction, of its not taken outcome. The twelve undefined values, which have no cost, stand as 0; they, DAA, IN
and OUT are never charged. -/
def costRow : Nat → List Nat
  | 0x0 => [4, 10, 7, 5, 5, 5, 7, 4, 0, 10, 7, 5, 5, 5, 7, 4]
  | 0x1 => [0, 10, 7, 5, 5, 5, 7, 4, 0, 10, 7, 5, 5, 5, 7, 4]
  | 0x2 => [0, 10, 16, 5, 5, 5, 7, 4, 0, 10, 16, 5, 5, 5, 7, 4]
  | 0x3 => [0, 10, 13, 5, 10, 10, 10, 4, 0, 10, 13, 5, 5, 5, 7, 4]
  | 0x4 => [5, 5, 5, 5, 5, 5, 7, 5, 5, 5, 5, 5, 5, 5, 7, 5]
  | 0x5 => [5, 5, 5, 5, 5, 5, 7, 5, 5, 5, 5, 5, 5, 5, 7, 5]
  | 0x6 => [5, 5, 5, 5, 5, 5, 7, 5, 5, 5, 5, 5, 5, 5, 7, 5]
  | 0x7 => [7, 7, 7, 7, 7, 7, 7, 7, 5, 5, 5, 5, 5, 5, 7, 5]
  | 0x8 => [4, 4, 4, 4, 4, 4, 7, 4, 4, 4, 4, 4, 4, 4, 7, 4]
  | 0x9 => [4, 4, 4, 4, 4, 4, 7, 4, 4, 4, 4, 4, 4, 4, 7, 4]
  | 0xA => [4, 4, 4, 4, 4, 4, 7, 4, 4, 4, 4, 4, 4, 4, 7, 4]
  | 0xB => [4, 4, 4, 4, 4, 4, 7, 4, 4, 4, 4, 4, 4, 4, 7, 4]
  | 0xC => [5, 10, 10, 10, 11, 11, 7, 11, 5, 10, 10, 0, 11, 17, 7, 11]
  | 0xD => [5, 10, 10, 10, 11, 11, 7, 11, 5, 0, 10, 10, 11, 0, 7, 11]
  | 0xE => [5, 10, 10, 18, 11, 11, 7, 11, 5, 5, 10, 4, 11, 0, 7, 11]
  | _ => [5, 10, 10, 4, 11, 11, 7, 11, 5, 5, 10, 4, 11, 0, 7, 11]

/-- The cost of the taken outcome of Rcc, Jcc and Ccc (R312); of another opcode, none. -/
def takenCost (op : Byte) : Option Nat :=
  if op &&& 0xC7#8 = 0xC0#8 then some 11
  else if op &&& 0xC7#8 = 0xC2#8 then some 10
  else if op &&& 0xC7#8 = 0xC4#8 then some 17
  else none

/-- `COST(op)` is `cost op false`; `COST(op, taken)` is `cost op taken` (R312). -/
def cost (op : Byte) (taken : Bool) : Nat :=
  let notTaken := (costRow (op.toNat / 16)).getD (op.toNat % 16) 0
  if taken then (takenCost op).getD notTaken else notTaken

end Sys2Proof.Machine
end

