-- ==== Sys2Proof/Config.lean ====
section
/-! DEFINITION. The values this instance of the block takes for the parameters that R5 leaves OPEN and
`State.reset` needs. `State.resetWith` takes any ENTRY and any MEM0; the third parameter, COST, is
`Machine/Cost.lean`. -/

namespace Sys2Proof

/-- `ENTRY` of `State.reset`. DESIGN CHOICE (log entry 1): R303 leaves it open and names the two
conventional values 0x0000 and 0x0100; this is the one that 95_test_vectors uses. -/
def Config.entry : Word := 0x0100#16

/-- What an address that memory does not list reads as. DESIGN CHOICE (log entry 2): R302 leaves MEM0
open and recommends 0x00 as the fill outside the image. -/
def Config.memFill : Byte := 0x00#8

end Sys2Proof
end

