-- ==== Sys2Proof/Machine/State.lean ====
section
/-! DEFINITION. The state of one core (10_state, 20_memory), plain data, and the reasons an outcome can carry.
"Nothing else is state" (10_state section 1). -/

namespace Sys2Proof.Machine

/-- The five condition flags, five independent bits (R16). -/
structure Flags where
  /-- CY, Carry. -/
  cy : Bool
  /-- AC, Auxiliary-Carry. -/
  ac : Bool
  /-- S, Sign. -/
  s : Bool
  /-- Z, Zero. -/
  z : Bool
  /-- P, Parity. -/
  p : Bool
  deriving DecidableEq, Repr

/-- The spec's fault causes (R280). A meaning raises one by `State.raiseFault`, which records it in RUN and answers a
NEXT state, as R281 says; no step answers `Outcome.fault` (log entry 4: safe). -/
inductive Fault where
  /-- Code 1, raised by the twelve undefined opcode values. Safe: the run ends where silicon goes on. -/
  | undefinedOpcode
  /-- Code 2, raised by DAA. Safe: the run ends where silicon goes on. -/
  | notImplementedDAA
  /-- Code 3, raised by IN and OUT. Safe: the run ends where silicon goes on. -/
  | notImplementedIO
  deriving DecidableEq, Repr

/-- The reasons for a refusal. Every instruction has its meaning, so no step refuses. -/
inductive Refusal where
  /-- Raised by an arm of `exec` whose instruction has no meaning yet; there is none. Safe. -/
  | notModelled (mnemonic : String)
  deriving DecidableEq, Repr

/-- RUN, the run status (R17). -/
inductive RunStatus where
  /-- The core steps. -/
  | running
  /-- HLT was executed: the normal end of a run (R250, R263). -/
  | halted
  /-- A fault was raised: the fatal end of a run (R281, R263). -/
  | faulted (cause : Fault)
  deriving DecidableEq, Repr

/-- Memory: the cells that differ from `Config.memFill`, by address (R40). `Memory.wf` is its canonical form. -/
abbrev Memory := List Host.Cell

/-- The complete state of one core (10_state section 1; R10, R14 to R19, R40). The pairs, the flag byte and PSW are views,
not storage (R13, R22, R24). -/
structure State where
  /-- A, the accumulator (R10, R11). -/
  a : Byte
  /-- B (R10). -/
  b : Byte
  /-- C (R10). -/
  c : Byte
  /-- D (R10). -/
  d : Byte
  /-- E (R10). -/
  e : Byte
  /-- H (R10). -/
  h : Byte
  /-- L (R10). -/
  l : Byte
  /-- PC: between steps, the address of the next opcode (R14). -/
  pc : Word
  /-- SP (R15). -/
  sp : Word
  /-- CY, AC, S, Z, P (R16). -/
  flags : Flags
  /-- INTE, the interrupt-enable flag (R18). -/
  inte : Bool
  /-- RUN (R17). -/
  run : RunStatus
  /-- cyc, the cycle counter, unbounded (R19). -/
  cyc : Nat
  /-- mem, 65536 cells (R40). -/
  mem : Memory
  deriving DecidableEq, Repr

/-- What a meaning answers. -/
abbrev Result := Host.Outcome State Fault Refusal

/-- The state after reset (R27, R300), for the ENTRY and the memory fill of `Config` (log entries 1 and 2) and no image
loaded. `State.resetWith` is reset for any ENTRY and any MEM0. -/
def State.reset : State where
  a := 0x00#8
  b := 0x00#8
  c := 0x00#8
  d := 0x00#8
  e := 0x00#8
  h := 0x00#8
  l := 0x00#8
  pc := Config.entry
  sp := 0x0000#16
  flags := { cy := false, ac := false, s := false, z := false, p := false }
  inte := false
  run := .running
  cyc := 0
  mem := []

end Sys2Proof.Machine
end

