-- ==== Sys2Proof/Machine/Ops.lean ====
section
/-! DEFINITION. The named operations over memory and the control state: reading and writing memory, the stack primitives,
raising a fault, advancing PC and charging cyc, fetching, and reset for any ENTRY and MEM0. -/

namespace Sys2Proof.Machine

/-! ## Memory (20_memory) -/

/-- The byte listed for a key, or what an unlisted address reads as. -/
def Memory.lookup : Memory → Nat → Byte
  | [], _ => Config.memFill
  | c :: m, n => if c.1 = n then c.2 else Memory.lookup m n

/-- `MemRead(addr, 1)` (R41). -/
def Memory.read (m : Memory) (addr : Word) : Byte := m.lookup addr.toNat

/-- Memory without any cell listed for a key. -/
def Memory.eraseCell (m : Memory) (n : Nat) : Memory := m.filter fun c => c.1 != n

/-- Memory with one more cell, put before the first one with a greater key. -/
def Memory.insertCell (n : Nat) (v : Byte) : Memory → Memory
  | [] => [(n, v)]
  | c :: m => if n < c.1 then (n, v) :: c :: m else c :: Memory.insertCell n v m

/-- `MemWrite(addr, 1, v)` (R42), keeping the canonical form: a cell that takes the fill value is no longer listed. -/
def Memory.write (m : Memory) (addr : Word) (v : Byte) : Memory :=
  if v = Config.memFill then m.eraseCell addr.toNat
  else Memory.insertCell addr.toNat v (m.eraseCell addr.toNat)

/-- The canonical form: keys strictly rising, each a 16-bit address, no cell equal to the fill. Equal memories are then
equal lists. -/
abbrev Memory.wf (m : Memory) : Prop :=
  m.Pairwise (fun c c' => c.1 < c'.1) ∧ ∀ c ∈ m, c.1 < 65536 ∧ c.2 ≠ Config.memFill

/-- The memory with given contents: `mem[a] <- MEM0(a)` for every address (R300). -/
def Memory.ofFun (mem0 : Word → Byte) : Memory :=
  (List.range 65536).filterMap fun n =>
    if mem0 (BitVec.ofNat 16 n) = Config.memFill then none else some (n, mem0 (BitVec.ofNat 16 n))

/-- `MEM0` of a program image loaded at an origin (R302): the image's bytes there, the fill elsewhere. An image that does
not fit is refused, as R302 recommends; the loader itself is out of scope (R4). -/
def imageMem0 (org : Word) (img : List Byte) : Option (Word → Byte) :=
  if org.toNat + img.length ≤ 65536 then
    some fun a => if org.toNat ≤ a.toNat then img.getD (a.toNat - org.toNat) Config.memFill else Config.memFill
  else none

/-! ## Reads and updates of the state -/

/-- `MemRead(addr, 1)` (R41). -/
def State.read (s : State) (addr : Word) : Byte := s.mem.read addr

/-- `MemRead(addr, 2)`: low byte at `addr`, high byte at `addr + 1`, which wraps (R43). -/
def State.read16 (s : State) (addr : Word) : Word := word16 (s.read (addr + 1)) (s.read addr)

/-- `MemWrite(addr, 1, v)` (R42). -/
def State.write (s : State) (addr : Word) (v : Byte) : State := { s with mem := s.mem.write addr v }

/-- `MemWrite(addr, 2, v)`: low byte to `addr`, then high byte to `addr + 1`, which wraps (R43). -/
def State.write16 (s : State) (addr : Word) (v : Word) : State :=
  (s.write addr (loByte v)).write (addr + 1) (hiByte v)

/-- `PC <- v`. -/
def State.setPC (s : State) (v : Word) : State := { s with pc := v }

/-- `SP <- v`. -/
def State.setSP (s : State) (v : Word) : State := { s with sp := v }

/-- The five flags together. -/
def State.setFlags (s : State) (f : Flags) : State := { s with flags := f }

/-- `CY <- v`, the other four flags untouched. -/
def State.setCY (s : State) (v : Bool) : State := { s with flags := { s.flags with cy := v } }

/-- `INTE <- v` (R18). -/
def State.setINTE (s : State) (v : Bool) : State := { s with inte := v }

/-- `RUN <- v` (R17). -/
def State.setRUN (s : State) (v : RunStatus) : State := { s with run := v }

/-- `cyc <- cyc + COST(op, taken)` (R261, R312). -/
def State.charge (s : State) (op : Byte) (taken : Bool) : State := { s with cyc := s.cyc + cost op taken }

/-! ## The stack primitives (41_addressing) -/

/-- `Push16(v)`: high byte at SP - 1, low byte at SP - 2, then SP - 2 (R128). -/
def State.push16 (s : State) (v : Word) : State :=
  ((s.write (s.sp - 1) (hiByte v)).write (s.sp - 2) (loByte v)).setSP (s.sp - 2)

/-- The value that `Pop16()` returns: low byte at SP, high byte at SP + 1 (R129). -/
def State.stackTop (s : State) : Word := s.read16 s.sp

/-- The state that `Pop16()` leaves: SP + 2 (R129). -/
def State.dropTop (s : State) : State := s.setSP (s.sp + 2)

/-! ## Faults (60_exceptions) -/

/-- `raise Fault(cause)`: RUN becomes Faulted(cause) "and nothing else is assigned" (R281): no register is saved, PC stays at
the faulting opcode, cyc is not charged, control goes nowhere (R285). There is no return from a fault: "Return-from-trap
instruction: none" (R285). -/
def State.raiseFault (s : State) (cause : Fault) : State := s.setRUN (.faulted cause)

/-- The code of a cause (R280). -/
def Fault.code : Fault → Nat
  | .undefinedOpcode => 1
  | .notImplementedDAA => 2
  | .notImplementedIO => 3

/-! ## The end of an instruction -/

/-- `next = (PC + len) mod 65536` (R7, R14). -/
def State.next (s : State) (op : Byte) : Word := s.pc + BitVec.ofNat 16 (opcodeLength op)

/-- `PC <- next; cyc <- cyc + COST(op)`: the closing line of an instruction that transfers no control (R261). For a
conditional instruction it is the end of the not taken outcome. -/
def State.advance (s : State) (op : Byte) : State := (s.setPC (s.next op)).charge op false

/-! ## Fetch -/

/-- The instruction at PC: the opcode byte, then as many operand bytes as the opcode's length says, at addresses that wrap
(R260, R266, R74). -/
def State.fetch (s : State) : Instr :=
  let op := s.read s.pc
  let b2 := if 2 ≤ opcodeLength op then s.read (s.pc + 1) else 0#8
  let b3 := if opcodeLength op = 3 then s.read (s.pc + 2) else 0#8
  decode op b2 b3

/-! ## Reset -/

/-- Reset with the parameters ENTRY and MEM0 (R300, R27). -/
def State.resetWith (entry : Word) (mem0 : Word → Byte) : State :=
  { State.reset with pc := entry, mem := Memory.ofFun mem0 }

end Sys2Proof.Machine
end

