-- ==== Sys2Proof/Machine/Operands.lean ====
section
/-! DEFINITION. The operand forms (41_addressing): 8-bit registers and M, register pairs, the pairs of PUSH and POP. -/

namespace Sys2Proof.Machine

/-- `R[c]` (R10, R12, R127). -/
def State.reg (s : State) : Reg8 → Byte
  | .b => s.b
  | .c => s.c
  | .d => s.d
  | .e => s.e
  | .h => s.h
  | .l => s.l
  | .a => s.a

/-- `R[c] <- v` (R10, R127): no other register changes. -/
def State.setReg (s : State) (r : Reg8) (v : Byte) : State :=
  match r with
  | .b => { s with b := v }
  | .c => { s with c := v }
  | .d => { s with d := v }
  | .e => { s with e := v }
  | .h => { s with h := v }
  | .l => { s with l := v }
  | .a => { s with a := v }

/-- `RP[p]`: the pair views, high register first, and SP (R13). -/
def State.pair (s : State) : RegPair → Word
  | .bc => word16 s.b s.c
  | .de => word16 s.d s.e
  | .hl => word16 s.h s.l
  | .sp => s.sp

/-- `RP[p] <- v` (R13). -/
def State.setPair (s : State) (p : RegPair) (v : Word) : State :=
  match p with
  | .bc => (s.setReg .b (hiByte v)).setReg .c (loByte v)
  | .de => (s.setReg .d (hiByte v)).setReg .e (loByte v)
  | .hl => (s.setReg .h (hiByte v)).setReg .l (loByte v)
  | .sp => s.setSP v

/-- `HL`, the address of M (R121). -/
def State.hl (s : State) : Word := s.pair .hl

/-- `ReadOp8(c)`: a register, or the byte at HL (R122). -/
def State.readOp8 (s : State) : Operand8 → Byte
  | .reg r => s.reg r
  | .mem => s.read s.hl

/-- `WriteOp8(c, v)`: a register, or the byte at HL (R123). -/
def State.writeOp8 (s : State) (o : Operand8) (v : Byte) : State :=
  match o with
  | .reg r => s.setReg r v
  | .mem => s.write s.hl v

end Sys2Proof.Machine
end

