-- ==== Sys2Proof/Machine/Flags.lean ====
section
/-! DEFINITION. The flag unit and the ALU primitives (40_alu_flags), the flag byte and PSW (10_state section 8) and the
conditions (45_control_transfer section 1). A primitive is a function of its operands and the incoming flags alone (R105): it
gives the result and the flags, with every flag it does not write as it was. -/

namespace Sys2Proof.Machine

/-! ## The flag unit -/

/-- `v[7] + v[6] + ... + v[0]`. -/
def bitSum (v : Byte) : Nat :=
  v[7].toNat + v[6].toNat + v[5].toNat + v[4].toNat + v[3].toNat + v[2].toNat + v[1].toNat + v[0].toNat

/-- `parity(v)`: the number of set bits is even (R92). -/
def parity (v : Byte) : Bool := bitSum v % 2 == 0

/-- `zsp(v)`: Z, S and P from a result byte, nothing else (R90 to R93; R106, law 2). -/
def zsp (v : Byte) (f : Flags) : Flags := { f with z := v == 0x00#8, s := v[7], p := parity v }

/-! ## The ALU primitives -/

/-- `add8(a, b, cin)`: all five flags (R95; R106, law 1). -/
def add8 (a b : Byte) (cin : Bool) (f : Flags) : Byte × Flags :=
  let sum := a.toNat + b.toNat + cin.toNat
  let res := BitVec.ofNat 8 sum
  (res, { zsp res f with
    cy := decide (sum > 255)
    ac := decide ((a &&& 0x0F#8).toNat + (b &&& 0x0F#8).toNat + cin.toNat > 0x0F) })

/-- `sub8(a, b, bin)`: all five flags; AC is the carry out of bit 3 of `a + ~b + (1 - bin)`, not inverted (R96). -/
def sub8 (a b : Byte) (bin : Bool) (f : Flags) : Byte × Flags :=
  let res := a - b - BitVec.ofNat 8 bin.toNat
  (res, { zsp res f with
    cy := decide (b.toNat + bin.toNat > a.toNat)
    ac := decide ((a &&& 0x0F#8).toNat + (~~~b &&& 0x0F#8).toNat + (1 - bin.toNat) > 0x0F) })

/-- `cmp8(a, b)`: the flags of `sub8(a, b, 0)`, no result (R97). -/
def cmp8 (a b : Byte) (f : Flags) : Flags := (sub8 a b false f).2

/-- `inc8(v)`: AC, Z, S, P; never CY (R98; R106, law 3). -/
def inc8 (v : Byte) (f : Flags) : Byte × Flags :=
  let res := v + 1#8
  (res, { zsp res f with ac := (v &&& 0x0F#8) == 0x0F#8 })

/-- `dec8(v)`: AC, Z, S, P; never CY (R99; R106, law 3). -/
def dec8 (v : Byte) (f : Flags) : Byte × Flags :=
  let res := v - 1#8
  (res, { zsp res f with ac := (v &&& 0x0F#8) != 0x00#8 })

/-- The flags of `logic8` for a result byte: CY and AC cleared, Z, S, P from the result, for AND, XOR and OR alike
(R100). -/
def logicFlags (res : Byte) (f : Flags) : Flags := { zsp res f with cy := false, ac := false }

/-- `logic8(AND, a, b)` (R100). -/
def and8 (a b : Byte) (f : Flags) : Byte × Flags := (a &&& b, logicFlags (a &&& b) f)

/-- `logic8(XOR, a, b)` (R100). -/
def xor8 (a b : Byte) (f : Flags) : Byte × Flags := (a ^^^ b, logicFlags (a ^^^ b) f)

/-- `logic8(OR, a, b)` (R100). -/
def or8 (a b : Byte) (f : Flags) : Byte × Flags := (a ||| b, logicFlags (a ||| b) f)

/-- `add16(x, y)`: CY only (R102; R106, law 4). -/
def add16 (x y : Word) (f : Flags) : Word × Flags :=
  let sum := x.toNat + y.toNat
  (BitVec.ofNat 16 sum, { f with cy := decide (sum > 65535) })

/-! ## The flag byte and PSW -/

/-- `FlagByte()`: S Z 0 AC 0 P 1 CY, from bit 7 to bit 0 (R22). -/
def flagByte (f : Flags) : Byte :=
  BitVec.ofNat 8 (f.s.toNat <<< 7 ||| f.z.toNat <<< 6 ||| f.ac.toNat <<< 4 ||| f.p.toNat <<< 2 ||| 0x02 ||| f.cy.toNat)

/-- `SetFlagsFromByte(v)`; bits 5, 3 and 1 are ignored (R23). -/
def flagsOfByte (v : Byte) : Flags := { cy := v[0], ac := v[4], s := v[7], z := v[6], p := v[2] }

/-- What PUSH pushes: a pair, or PSW, A above the flag byte (R24, R240, R241). -/
def State.stackPair (s : State) : StackPair → Word
  | .bc => s.pair .bc
  | .de => s.pair .de
  | .hl => s.pair .hl
  | .psw => word16 s.a (flagByte s.flags)

/-- What POP writes: a pair, or A and the five flags (R23, R242, R243). -/
def State.setStackPair (s : State) (p : StackPair) (v : Word) : State :=
  match p with
  | .bc => s.setPair .bc v
  | .de => s.setPair .de v
  | .hl => s.setPair .hl v
  | .psw => (s.setFlags (flagsOfByte (loByte v))).setReg .a (hiByte v)

/-! ## Conditions -/

/-- `cond(ccc)`: each reads one flag; AC is tested by none (R228). -/
def condHolds (f : Flags) : Cond → Bool
  | .nz => !f.z
  | .z => f.z
  | .nc => !f.cy
  | .c => f.cy
  | .po => !f.p
  | .pe => f.p
  | .p => !f.s
  | .m => f.s

end Sys2Proof.Machine
end

