-- ==== Sys2Proof/Machine/Arithmetic.lean ====
section
/-! DEFINITION. The meanings of the arithmetic instructions (43_arithmetic). The operand is read first, then the primitive gives result and flags, then the result is written. -/

namespace Sys2Proof.Machine

/-! ## The shared operations -/

/-- A and the flags written from a primitive's result, then the closing line. -/
def writeA (op : Byte) (r : Byte × Flags) (s : State) : State := ((s.setFlags r.2).setReg .a r.1).advance op

/-- `A <- add8(A, v, 0)`: ADD, ADI (R160, R161, R162). -/
def addA (op v : Byte) (s : State) : State := writeA op (add8 s.a v false s.flags) s

/-- `A <- add8(A, v, CY)`: ADC, ACI (R163, R164, R165). -/
def adcA (op v : Byte) (s : State) : State := writeA op (add8 s.a v s.flags.cy s.flags) s

/-- `A <- sub8(A, v, 0)`: SUB, SUI (R166, R167, R168). -/
def subA (op v : Byte) (s : State) : State := writeA op (sub8 s.a v false s.flags) s

/-- `A <- sub8(A, v, CY)`: SBB, SBI (R169, R170, R171). -/
def sbbA (op v : Byte) (s : State) : State := writeA op (sub8 s.a v s.flags.cy s.flags) s

/-- An 8-bit operand and the flags written from a primitive's result, then the closing line. -/
def writeOperand (op : Byte) (o : Operand8) (r : Byte × Flags) (s : State) : State :=
  ((s.setFlags r.2).writeOp8 o r.1).advance op

/-- `WriteOp8(ddd, inc8(ReadOp8(ddd)))`: INR (R172, R173). -/
def increment (op : Byte) (o : Operand8) (s : State) : State := writeOperand op o (inc8 (s.readOp8 o) s.flags) s

/-- `WriteOp8(ddd, dec8(ReadOp8(ddd)))`: DCR (R174, R175). -/
def decrement (op : Byte) (o : Operand8) (s : State) : State := writeOperand op o (dec8 (s.readOp8 o) s.flags) s

/-- `RP[rp] <- RP[rp] + 1`: INX, no flag (R176, R104). -/
def incrementPair (op : Byte) (p : RegPair) (s : State) : State := (s.setPair p (s.pair p + 1)).advance op

/-- `RP[rp] <- RP[rp] - 1`: DCX, no flag (R177, R104). -/
def decrementPair (op : Byte) (p : RegPair) (s : State) : State := (s.setPair p (s.pair p - 1)).advance op

/-- `HL <- add16(HL, RP[rp])`: DAD, CY only (R178). -/
def addPair (op : Byte) (p : RegPair) (s : State) : State :=
  let r := add16 s.hl (s.pair p) s.flags
  ((s.setFlags r.2).setPair .hl r.1).advance op

/-! ## The instructions -/

/-- INX B (R176). -/
def execInxB (s : State) : Result := .next (incrementPair 0x03#8 .bc s)

/-- INR B (R172). -/
def execInrB (s : State) : Result := .next (increment 0x04#8 (.reg .b) s)

/-- DCR B (R174). -/
def execDcrB (s : State) : Result := .next (decrement 0x05#8 (.reg .b) s)

/-- DAD B (R178). -/
def execDadB (s : State) : Result := .next (addPair 0x09#8 .bc s)

/-- DCX B (R177). -/
def execDcxB (s : State) : Result := .next (decrementPair 0x0B#8 .bc s)

/-- INR C (R172). -/
def execInrC (s : State) : Result := .next (increment 0x0C#8 (.reg .c) s)

/-- DCR C (R174). -/
def execDcrC (s : State) : Result := .next (decrement 0x0D#8 (.reg .c) s)

/-- INX D (R176). -/
def execInxD (s : State) : Result := .next (incrementPair 0x13#8 .de s)

/-- INR D (R172). -/
def execInrD (s : State) : Result := .next (increment 0x14#8 (.reg .d) s)

/-- DCR D (R174). -/
def execDcrD (s : State) : Result := .next (decrement 0x15#8 (.reg .d) s)

/-- DAD D (R178). -/
def execDadD (s : State) : Result := .next (addPair 0x19#8 .de s)

/-- DCX D (R177). -/
def execDcxD (s : State) : Result := .next (decrementPair 0x1B#8 .de s)

/-- INR E (R172). -/
def execInrE (s : State) : Result := .next (increment 0x1C#8 (.reg .e) s)

/-- DCR E (R174). -/
def execDcrE (s : State) : Result := .next (decrement 0x1D#8 (.reg .e) s)

/-- INX H (R176). -/
def execInxH (s : State) : Result := .next (incrementPair 0x23#8 .hl s)

/-- INR H (R172). -/
def execInrH (s : State) : Result := .next (increment 0x24#8 (.reg .h) s)

/-- DCR H (R174). -/
def execDcrH (s : State) : Result := .next (decrement 0x25#8 (.reg .h) s)

/-- DAA (R179). -/
def execDaa (s : State) : Result := .next (s.raiseFault .notImplementedDAA)

/-- DAD H (R178). -/
def execDadH (s : State) : Result := .next (addPair 0x29#8 .hl s)

/-- DCX H (R177). -/
def execDcxH (s : State) : Result := .next (decrementPair 0x2B#8 .hl s)

/-- INR L (R172). -/
def execInrL (s : State) : Result := .next (increment 0x2C#8 (.reg .l) s)

/-- DCR L (R174). -/
def execDcrL (s : State) : Result := .next (decrement 0x2D#8 (.reg .l) s)

/-- INX SP (R176). -/
def execInxSP (s : State) : Result := .next (incrementPair 0x33#8 .sp s)

/-- INR M (R173). -/
def execInrM (s : State) : Result := .next (increment 0x34#8 .mem s)

/-- DCR M (R175). -/
def execDcrM (s : State) : Result := .next (decrement 0x35#8 .mem s)

/-- DAD SP (R178). -/
def execDadSP (s : State) : Result := .next (addPair 0x39#8 .sp s)

/-- DCX SP (R177). -/
def execDcxSP (s : State) : Result := .next (decrementPair 0x3B#8 .sp s)

/-- INR A (R172). -/
def execInrA (s : State) : Result := .next (increment 0x3C#8 (.reg .a) s)

/-- DCR A (R174). -/
def execDcrA (s : State) : Result := .next (decrement 0x3D#8 (.reg .a) s)

/-- ADD B (R160). -/
def execAddB (s : State) : Result := .next (addA 0x80#8 (s.readOp8 (.reg .b)) s)

/-- ADD C (R160). -/
def execAddC (s : State) : Result := .next (addA 0x81#8 (s.readOp8 (.reg .c)) s)

/-- ADD D (R160). -/
def execAddD (s : State) : Result := .next (addA 0x82#8 (s.readOp8 (.reg .d)) s)

/-- ADD E (R160). -/
def execAddE (s : State) : Result := .next (addA 0x83#8 (s.readOp8 (.reg .e)) s)

/-- ADD H (R160). -/
def execAddH (s : State) : Result := .next (addA 0x84#8 (s.readOp8 (.reg .h)) s)

/-- ADD L (R160). -/
def execAddL (s : State) : Result := .next (addA 0x85#8 (s.readOp8 (.reg .l)) s)

/-- ADD M (R161). -/
def execAddM (s : State) : Result := .next (addA 0x86#8 (s.readOp8 .mem) s)

/-- ADD A (R160). -/
def execAddA (s : State) : Result := .next (addA 0x87#8 (s.readOp8 (.reg .a)) s)

/-- ADC B (R163). -/
def execAdcB (s : State) : Result := .next (adcA 0x88#8 (s.readOp8 (.reg .b)) s)

/-- ADC C (R163). -/
def execAdcC (s : State) : Result := .next (adcA 0x89#8 (s.readOp8 (.reg .c)) s)

/-- ADC D (R163). -/
def execAdcD (s : State) : Result := .next (adcA 0x8A#8 (s.readOp8 (.reg .d)) s)

/-- ADC E (R163). -/
def execAdcE (s : State) : Result := .next (adcA 0x8B#8 (s.readOp8 (.reg .e)) s)

/-- ADC H (R163). -/
def execAdcH (s : State) : Result := .next (adcA 0x8C#8 (s.readOp8 (.reg .h)) s)

/-- ADC L (R163). -/
def execAdcL (s : State) : Result := .next (adcA 0x8D#8 (s.readOp8 (.reg .l)) s)

/-- ADC M (R164). -/
def execAdcM (s : State) : Result := .next (adcA 0x8E#8 (s.readOp8 .mem) s)

/-- ADC A (R163). -/
def execAdcA (s : State) : Result := .next (adcA 0x8F#8 (s.readOp8 (.reg .a)) s)

/-- SUB B (R166). -/
def execSubB (s : State) : Result := .next (subA 0x90#8 (s.readOp8 (.reg .b)) s)

/-- SUB C (R166). -/
def execSubC (s : State) : Result := .next (subA 0x91#8 (s.readOp8 (.reg .c)) s)

/-- SUB D (R166). -/
def execSubD (s : State) : Result := .next (subA 0x92#8 (s.readOp8 (.reg .d)) s)

/-- SUB E (R166). -/
def execSubE (s : State) : Result := .next (subA 0x93#8 (s.readOp8 (.reg .e)) s)

/-- SUB H (R166). -/
def execSubH (s : State) : Result := .next (subA 0x94#8 (s.readOp8 (.reg .h)) s)

/-- SUB L (R166). -/
def execSubL (s : State) : Result := .next (subA 0x95#8 (s.readOp8 (.reg .l)) s)

/-- SUB M (R167). -/
def execSubM (s : State) : Result := .next (subA 0x96#8 (s.readOp8 .mem) s)

/-- SUB A (R166). -/
def execSubA (s : State) : Result := .next (subA 0x97#8 (s.readOp8 (.reg .a)) s)

/-- SBB B (R169). -/
def execSbbB (s : State) : Result := .next (sbbA 0x98#8 (s.readOp8 (.reg .b)) s)

/-- SBB C (R169). -/
def execSbbC (s : State) : Result := .next (sbbA 0x99#8 (s.readOp8 (.reg .c)) s)

/-- SBB D (R169). -/
def execSbbD (s : State) : Result := .next (sbbA 0x9A#8 (s.readOp8 (.reg .d)) s)

/-- SBB E (R169). -/
def execSbbE (s : State) : Result := .next (sbbA 0x9B#8 (s.readOp8 (.reg .e)) s)

/-- SBB H (R169). -/
def execSbbH (s : State) : Result := .next (sbbA 0x9C#8 (s.readOp8 (.reg .h)) s)

/-- SBB L (R169). -/
def execSbbL (s : State) : Result := .next (sbbA 0x9D#8 (s.readOp8 (.reg .l)) s)

/-- SBB M (R170). -/
def execSbbM (s : State) : Result := .next (sbbA 0x9E#8 (s.readOp8 .mem) s)

/-- SBB A (R169). -/
def execSbbA (s : State) : Result := .next (sbbA 0x9F#8 (s.readOp8 (.reg .a)) s)

/-- ADI d8 (R162). -/
def execAdi (d8 : Byte) (s : State) : Result := .next (addA 0xC6#8 d8 s)

/-- ACI d8 (R165). -/
def execAci (d8 : Byte) (s : State) : Result := .next (adcA 0xCE#8 d8 s)

/-- SUI d8 (R168). -/
def execSui (d8 : Byte) (s : State) : Result := .next (subA 0xD6#8 d8 s)

/-- SBI d8 (R171). -/
def execSbi (d8 : Byte) (s : State) : Result := .next (sbbA 0xDE#8 d8 s)

end Sys2Proof.Machine
end

