-- ==== Sys2Proof/Machine/Control.lean ====
section
/-! DEFINITION. The meanings of the control transfer instructions (45_control_transfer). None writes a flag or a register A to L. -/

namespace Sys2Proof.Machine

/-! ## The shared operations -/

/-- `PC <- target`: JMP, PCHL (R220, R227). -/
def jump (op : Byte) (target : Word) (s : State) : State := (s.setPC target).charge op false

/-- Jcc (R221). -/
def jumpIf (op : Byte) (cond : Cond) (target : Word) (s : State) : State :=
  if condHolds s.flags cond then (s.setPC target).charge op true else s.advance op

/-- `Push16(next); PC <- target`: CALL, RST (R222, R226). -/
def callTo (op : Byte) (target : Word) (s : State) : State :=
  ((s.push16 (s.next op)).setPC target).charge op false

/-- Ccc: taken as CALL, else only PC and cyc change (R223). -/
def callIf (op : Byte) (cond : Cond) (target : Word) (s : State) : State :=
  if condHolds s.flags cond then ((s.push16 (s.next op)).setPC target).charge op true else s.advance op

/-- `PC <- Pop16()`: RET (R224). -/
def returnTo (op : Byte) (s : State) : State := (s.dropTop.setPC s.stackTop).charge op false

/-- Rcc: taken as RET, else no stack access (R225). -/
def returnIf (op : Byte) (cond : Cond) (s : State) : State :=
  if condHolds s.flags cond then (s.dropTop.setPC s.stackTop).charge op true else s.advance op

/-- `nnn * 8` (R67, R226). -/
def restartVector (n : Nat) : Word := BitVec.ofNat 16 (n * 8)

/-! ## The instructions -/

/-- RNZ (R225). -/
def execRnz (s : State) : Result := .next (returnIf 0xC0#8 .nz s)

/-- JNZ a16 (R221). -/
def execJnz (a16 : Word) (s : State) : Result := .next (jumpIf 0xC2#8 .nz a16 s)

/-- JMP a16 (R220). -/
def execJmp (a16 : Word) (s : State) : Result := .next (jump 0xC3#8 a16 s)

/-- CNZ a16 (R223). -/
def execCnz (a16 : Word) (s : State) : Result := .next (callIf 0xC4#8 .nz a16 s)

/-- RST 0 (R226). -/
def execRst0 (s : State) : Result := .next (callTo 0xC7#8 (restartVector 0) s)

/-- RZ (R225). -/
def execRz (s : State) : Result := .next (returnIf 0xC8#8 .z s)

/-- RET (R224). -/
def execRet (s : State) : Result := .next (returnTo 0xC9#8 s)

/-- JZ a16 (R221). -/
def execJz (a16 : Word) (s : State) : Result := .next (jumpIf 0xCA#8 .z a16 s)

/-- CZ a16 (R223). -/
def execCz (a16 : Word) (s : State) : Result := .next (callIf 0xCC#8 .z a16 s)

/-- CALL a16 (R222). -/
def execCall (a16 : Word) (s : State) : Result := .next (callTo 0xCD#8 a16 s)

/-- RST 1 (R226). -/
def execRst1 (s : State) : Result := .next (callTo 0xCF#8 (restartVector 1) s)

/-- RNC (R225). -/
def execRnc (s : State) : Result := .next (returnIf 0xD0#8 .nc s)

/-- JNC a16 (R221). -/
def execJnc (a16 : Word) (s : State) : Result := .next (jumpIf 0xD2#8 .nc a16 s)

/-- CNC a16 (R223). -/
def execCnc (a16 : Word) (s : State) : Result := .next (callIf 0xD4#8 .nc a16 s)

/-- RST 2 (R226). -/
def execRst2 (s : State) : Result := .next (callTo 0xD7#8 (restartVector 2) s)

/-- RC (R225). -/
def execRc (s : State) : Result := .next (returnIf 0xD8#8 .c s)

/-- JC a16 (R221). -/
def execJc (a16 : Word) (s : State) : Result := .next (jumpIf 0xDA#8 .c a16 s)

/-- CC a16 (R223). -/
def execCc (a16 : Word) (s : State) : Result := .next (callIf 0xDC#8 .c a16 s)

/-- RST 3 (R226). -/
def execRst3 (s : State) : Result := .next (callTo 0xDF#8 (restartVector 3) s)

/-- RPO (R225). -/
def execRpo (s : State) : Result := .next (returnIf 0xE0#8 .po s)

/-- JPO a16 (R221). -/
def execJpo (a16 : Word) (s : State) : Result := .next (jumpIf 0xE2#8 .po a16 s)

/-- CPO a16 (R223). -/
def execCpo (a16 : Word) (s : State) : Result := .next (callIf 0xE4#8 .po a16 s)

/-- RST 4 (R226). -/
def execRst4 (s : State) : Result := .next (callTo 0xE7#8 (restartVector 4) s)

/-- RPE (R225). -/
def execRpe (s : State) : Result := .next (returnIf 0xE8#8 .pe s)

/-- PCHL (R227). -/
def execPchl (s : State) : Result := .next (jump 0xE9#8 s.hl s)

/-- JPE a16 (R221). -/
def execJpe (a16 : Word) (s : State) : Result := .next (jumpIf 0xEA#8 .pe a16 s)

/-- CPE a16 (R223). -/
def execCpe (a16 : Word) (s : State) : Result := .next (callIf 0xEC#8 .pe a16 s)

/-- RST 5 (R226). -/
def execRst5 (s : State) : Result := .next (callTo 0xEF#8 (restartVector 5) s)

/-- RP (R225). -/
def execRp (s : State) : Result := .next (returnIf 0xF0#8 .p s)

/-- JP a16 (R221). -/
def execJp (a16 : Word) (s : State) : Result := .next (jumpIf 0xF2#8 .p a16 s)

/-- CP a16 (R223). -/
def execCp (a16 : Word) (s : State) : Result := .next (callIf 0xF4#8 .p a16 s)

/-- RST 6 (R226). -/
def execRst6 (s : State) : Result := .next (callTo 0xF7#8 (restartVector 6) s)

/-- RM (R225). -/
def execRm (s : State) : Result := .next (returnIf 0xF8#8 .m s)

/-- JM a16 (R221). -/
def execJm (a16 : Word) (s : State) : Result := .next (jumpIf 0xFA#8 .m a16 s)

/-- CM a16 (R223). -/
def execCm (a16 : Word) (s : State) : Result := .next (callIf 0xFC#8 .m a16 s)

/-- RST 7 (R226). -/
def execRst7 (s : State) : Result := .next (callTo 0xFF#8 (restartVector 7) s)

end Sys2Proof.Machine
end

