-- ==== Sys2Proof/Machine/DataTransfer.lean ====
section
/-! DEFINITION. The meanings of the data transfer instructions (42_data_transfer). None reads or writes a flag. -/

namespace Sys2Proof.Machine

/-! ## The shared operations -/

/-- `WriteOp8(ddd, ReadOp8(sss))`: MOV (R140, R141, R142). The source and the address HL are read before the destination is
written. -/
def mov (op : Byte) (dst src : Operand8) (s : State) : State := (s.writeOp8 dst (s.readOp8 src)).advance op

/-- `WriteOp8(ddd, imm8)`: MVI (R143, R144). -/
def moveImm (op : Byte) (dst : Operand8) (d8 : Byte) (s : State) : State := (s.writeOp8 dst d8).advance op

/-- `RP[rp] <- imm16`: LXI (R145). -/
def loadPairImm (op : Byte) (p : RegPair) (d16 : Word) (s : State) : State := (s.setPair p d16).advance op

/-- `A <- MemRead(addr, 1)`: LDA, LDAX (R146, R150). -/
def loadA (op : Byte) (addr : Word) (s : State) : State := (s.setReg .a (s.read addr)).advance op

/-- `MemWrite(addr, 1, A)`: STA, STAX (R147, R151). -/
def storeA (op : Byte) (addr : Word) (s : State) : State := (s.write addr s.a).advance op

/-- `HL <- MemRead(addr, 2)`: LHLD (R148). -/
def loadHL (op : Byte) (addr : Word) (s : State) : State := (s.setPair .hl (s.read16 addr)).advance op

/-- `MemWrite(addr, 2, HL)`: SHLD (R149). -/
def storeHL (op : Byte) (addr : Word) (s : State) : State := (s.write16 addr s.hl).advance op

/-- HL and DE exchanged: XCHG (R152). -/
def exchangeHLDE (op : Byte) (s : State) : State := ((s.setPair .hl (s.pair .de)).setPair .de s.hl).advance op

/-! ## The instructions -/

/-- LXI B,d16 (R145). -/
def execLxiB (d16 : Word) (s : State) : Result := .next (loadPairImm 0x01#8 .bc d16 s)

/-- STAX B (R151). -/
def execStaxB (s : State) : Result := .next (storeA 0x02#8 (s.pair .bc) s)

/-- MVI B,d8 (R143). -/
def execMviB (d8 : Byte) (s : State) : Result := .next (moveImm 0x06#8 (.reg .b) d8 s)

/-- LDAX B (R150). -/
def execLdaxB (s : State) : Result := .next (loadA 0x0A#8 (s.pair .bc) s)

/-- MVI C,d8 (R143). -/
def execMviC (d8 : Byte) (s : State) : Result := .next (moveImm 0x0E#8 (.reg .c) d8 s)

/-- LXI D,d16 (R145). -/
def execLxiD (d16 : Word) (s : State) : Result := .next (loadPairImm 0x11#8 .de d16 s)

/-- STAX D (R151). -/
def execStaxD (s : State) : Result := .next (storeA 0x12#8 (s.pair .de) s)

/-- MVI D,d8 (R143). -/
def execMviD (d8 : Byte) (s : State) : Result := .next (moveImm 0x16#8 (.reg .d) d8 s)

/-- LDAX D (R150). -/
def execLdaxD (s : State) : Result := .next (loadA 0x1A#8 (s.pair .de) s)

/-- MVI E,d8 (R143). -/
def execMviE (d8 : Byte) (s : State) : Result := .next (moveImm 0x1E#8 (.reg .e) d8 s)

/-- LXI H,d16 (R145). -/
def execLxiH (d16 : Word) (s : State) : Result := .next (loadPairImm 0x21#8 .hl d16 s)

/-- SHLD a16 (R149). -/
def execShld (a16 : Word) (s : State) : Result := .next (storeHL 0x22#8 a16 s)

/-- MVI H,d8 (R143). -/
def execMviH (d8 : Byte) (s : State) : Result := .next (moveImm 0x26#8 (.reg .h) d8 s)

/-- LHLD a16 (R148). -/
def execLhld (a16 : Word) (s : State) : Result := .next (loadHL 0x2A#8 a16 s)

/-- MVI L,d8 (R143). -/
def execMviL (d8 : Byte) (s : State) : Result := .next (moveImm 0x2E#8 (.reg .l) d8 s)

/-- LXI SP,d16 (R145). -/
def execLxiSP (d16 : Word) (s : State) : Result := .next (loadPairImm 0x31#8 .sp d16 s)

/-- STA a16 (R147). -/
def execSta (a16 : Word) (s : State) : Result := .next (storeA 0x32#8 a16 s)

/-- MVI M,d8 (R144). -/
def execMviM (d8 : Byte) (s : State) : Result := .next (moveImm 0x36#8 .mem d8 s)

/-- LDA a16 (R146). -/
def execLda (a16 : Word) (s : State) : Result := .next (loadA 0x3A#8 a16 s)

/-- MVI A,d8 (R143). -/
def execMviA (d8 : Byte) (s : State) : Result := .next (moveImm 0x3E#8 (.reg .a) d8 s)

/-- MOV B,B (R140). -/
def execMovBB (s : State) : Result := .next (mov 0x40#8 (.reg .b) (.reg .b) s)

/-- MOV B,C (R140). -/
def execMovBC (s : State) : Result := .next (mov 0x41#8 (.reg .b) (.reg .c) s)

/-- MOV B,D (R140). -/
def execMovBD (s : State) : Result := .next (mov 0x42#8 (.reg .b) (.reg .d) s)

/-- MOV B,E (R140). -/
def execMovBE (s : State) : Result := .next (mov 0x43#8 (.reg .b) (.reg .e) s)

/-- MOV B,H (R140). -/
def execMovBH (s : State) : Result := .next (mov 0x44#8 (.reg .b) (.reg .h) s)

/-- MOV B,L (R140). -/
def execMovBL (s : State) : Result := .next (mov 0x45#8 (.reg .b) (.reg .l) s)

/-- MOV B,M (R141). -/
def execMovBM (s : State) : Result := .next (mov 0x46#8 (.reg .b) .mem s)

/-- MOV B,A (R140). -/
def execMovBA (s : State) : Result := .next (mov 0x47#8 (.reg .b) (.reg .a) s)

/-- MOV C,B (R140). -/
def execMovCB (s : State) : Result := .next (mov 0x48#8 (.reg .c) (.reg .b) s)

/-- MOV C,C (R140). -/
def execMovCC (s : State) : Result := .next (mov 0x49#8 (.reg .c) (.reg .c) s)

/-- MOV C,D (R140). -/
def execMovCD (s : State) : Result := .next (mov 0x4A#8 (.reg .c) (.reg .d) s)

/-- MOV C,E (R140). -/
def execMovCE (s : State) : Result := .next (mov 0x4B#8 (.reg .c) (.reg .e) s)

/-- MOV C,H (R140). -/
def execMovCH (s : State) : Result := .next (mov 0x4C#8 (.reg .c) (.reg .h) s)

/-- MOV C,L (R140). -/
def execMovCL (s : State) : Result := .next (mov 0x4D#8 (.reg .c) (.reg .l) s)

/-- MOV C,M (R141). -/
def execMovCM (s : State) : Result := .next (mov 0x4E#8 (.reg .c) .mem s)

/-- MOV C,A (R140). -/
def execMovCA (s : State) : Result := .next (mov 0x4F#8 (.reg .c) (.reg .a) s)

/-- MOV D,B (R140). -/
def execMovDB (s : State) : Result := .next (mov 0x50#8 (.reg .d) (.reg .b) s)

/-- MOV D,C (R140). -/
def execMovDC (s : State) : Result := .next (mov 0x51#8 (.reg .d) (.reg .c) s)

/-- MOV D,D (R140). -/
def execMovDD (s : State) : Result := .next (mov 0x52#8 (.reg .d) (.reg .d) s)

/-- MOV D,E (R140). -/
def execMovDE (s : State) : Result := .next (mov 0x53#8 (.reg .d) (.reg .e) s)

/-- MOV D,H (R140). -/
def execMovDH (s : State) : Result := .next (mov 0x54#8 (.reg .d) (.reg .h) s)

/-- MOV D,L (R140). -/
def execMovDL (s : State) : Result := .next (mov 0x55#8 (.reg .d) (.reg .l) s)

/-- MOV D,M (R141). -/
def execMovDM (s : State) : Result := .next (mov 0x56#8 (.reg .d) .mem s)

/-- MOV D,A (R140). -/
def execMovDA (s : State) : Result := .next (mov 0x57#8 (.reg .d) (.reg .a) s)

/-- MOV E,B (R140). -/
def execMovEB (s : State) : Result := .next (mov 0x58#8 (.reg .e) (.reg .b) s)

/-- MOV E,C (R140). -/
def execMovEC (s : State) : Result := .next (mov 0x59#8 (.reg .e) (.reg .c) s)

/-- MOV E,D (R140). -/
def execMovED (s : State) : Result := .next (mov 0x5A#8 (.reg .e) (.reg .d) s)

/-- MOV E,E (R140). -/
def execMovEE (s : State) : Result := .next (mov 0x5B#8 (.reg .e) (.reg .e) s)

/-- MOV E,H (R140). -/
def execMovEH (s : State) : Result := .next (mov 0x5C#8 (.reg .e) (.reg .h) s)

/-- MOV E,L (R140). -/
def execMovEL (s : State) : Result := .next (mov 0x5D#8 (.reg .e) (.reg .l) s)

/-- MOV E,M (R141). -/
def execMovEM (s : State) : Result := .next (mov 0x5E#8 (.reg .e) .mem s)

/-- MOV E,A (R140). -/
def execMovEA (s : State) : Result := .next (mov 0x5F#8 (.reg .e) (.reg .a) s)

/-- MOV H,B (R140). -/
def execMovHB (s : State) : Result := .next (mov 0x60#8 (.reg .h) (.reg .b) s)

/-- MOV H,C (R140). -/
def execMovHC (s : State) : Result := .next (mov 0x61#8 (.reg .h) (.reg .c) s)

/-- MOV H,D (R140). -/
def execMovHD (s : State) : Result := .next (mov 0x62#8 (.reg .h) (.reg .d) s)

/-- MOV H,E (R140). -/
def execMovHE (s : State) : Result := .next (mov 0x63#8 (.reg .h) (.reg .e) s)

/-- MOV H,H (R140). -/
def execMovHH (s : State) : Result := .next (mov 0x64#8 (.reg .h) (.reg .h) s)

/-- MOV H,L (R140). -/
def execMovHL (s : State) : Result := .next (mov 0x65#8 (.reg .h) (.reg .l) s)

/-- MOV H,M (R141). -/
def execMovHM (s : State) : Result := .next (mov 0x66#8 (.reg .h) .mem s)

/-- MOV H,A (R140). -/
def execMovHA (s : State) : Result := .next (mov 0x67#8 (.reg .h) (.reg .a) s)

/-- MOV L,B (R140). -/
def execMovLB (s : State) : Result := .next (mov 0x68#8 (.reg .l) (.reg .b) s)

/-- MOV L,C (R140). -/
def execMovLC (s : State) : Result := .next (mov 0x69#8 (.reg .l) (.reg .c) s)

/-- MOV L,D (R140). -/
def execMovLD (s : State) : Result := .next (mov 0x6A#8 (.reg .l) (.reg .d) s)

/-- MOV L,E (R140). -/
def execMovLE (s : State) : Result := .next (mov 0x6B#8 (.reg .l) (.reg .e) s)

/-- MOV L,H (R140). -/
def execMovLH (s : State) : Result := .next (mov 0x6C#8 (.reg .l) (.reg .h) s)

/-- MOV L,L (R140). -/
def execMovLL (s : State) : Result := .next (mov 0x6D#8 (.reg .l) (.reg .l) s)

/-- MOV L,M (R141). -/
def execMovLM (s : State) : Result := .next (mov 0x6E#8 (.reg .l) .mem s)

/-- MOV L,A (R140). -/
def execMovLA (s : State) : Result := .next (mov 0x6F#8 (.reg .l) (.reg .a) s)

/-- MOV M,B (R142). -/
def execMovMB (s : State) : Result := .next (mov 0x70#8 .mem (.reg .b) s)

/-- MOV M,C (R142). -/
def execMovMC (s : State) : Result := .next (mov 0x71#8 .mem (.reg .c) s)

/-- MOV M,D (R142). -/
def execMovMD (s : State) : Result := .next (mov 0x72#8 .mem (.reg .d) s)

/-- MOV M,E (R142). -/
def execMovME (s : State) : Result := .next (mov 0x73#8 .mem (.reg .e) s)

/-- MOV M,H (R142). -/
def execMovMH (s : State) : Result := .next (mov 0x74#8 .mem (.reg .h) s)

/-- MOV M,L (R142). -/
def execMovML (s : State) : Result := .next (mov 0x75#8 .mem (.reg .l) s)

/-- MOV M,A (R142). -/
def execMovMA (s : State) : Result := .next (mov 0x77#8 .mem (.reg .a) s)

/-- MOV A,B (R140). -/
def execMovAB (s : State) : Result := .next (mov 0x78#8 (.reg .a) (.reg .b) s)

/-- MOV A,C (R140). -/
def execMovAC (s : State) : Result := .next (mov 0x79#8 (.reg .a) (.reg .c) s)

/-- MOV A,D (R140). -/
def execMovAD (s : State) : Result := .next (mov 0x7A#8 (.reg .a) (.reg .d) s)

/-- MOV A,E (R140). -/
def execMovAE (s : State) : Result := .next (mov 0x7B#8 (.reg .a) (.reg .e) s)

/-- MOV A,H (R140). -/
def execMovAH (s : State) : Result := .next (mov 0x7C#8 (.reg .a) (.reg .h) s)

/-- MOV A,L (R140). -/
def execMovAL (s : State) : Result := .next (mov 0x7D#8 (.reg .a) (.reg .l) s)

/-- MOV A,M (R141). -/
def execMovAM (s : State) : Result := .next (mov 0x7E#8 (.reg .a) .mem s)

/-- MOV A,A (R140). -/
def execMovAA (s : State) : Result := .next (mov 0x7F#8 (.reg .a) (.reg .a) s)

/-- XCHG (R152). -/
def execXchg (s : State) : Result := .next (exchangeHLDE 0xEB#8 s)

end Sys2Proof.Machine
end

