-- ==== Sys2Proof/Machine/Logical.lean ====
section
/-! DEFINITION. The meanings of the logical, compare, rotate and flag instructions (44_logical). -/

namespace Sys2Proof.Machine

/-! ## The shared operations -/

/-- `A <- logic8(AND, A, v)`: ANA, ANI (R190, R191, R192). -/
def anaA (op v : Byte) (s : State) : State := writeA op (and8 s.a v s.flags) s

/-- `A <- logic8(XOR, A, v)`: XRA, XRI (R193, R194, R195). -/
def xraA (op v : Byte) (s : State) : State := writeA op (xor8 s.a v s.flags) s

/-- `A <- logic8(OR, A, v)`: ORA, ORI (R196, R197, R198). -/
def oraA (op v : Byte) (s : State) : State := writeA op (or8 s.a v s.flags) s

/-- `cmp8(A, v)`: CMP, CPI; A is not written (R199, R200, R201). -/
def cmpA (op v : Byte) (s : State) : State := (s.setFlags (cmp8 s.a v s.flags)).advance op

/-- A bit as the byte that holds it at position `k`. -/
def bitAt (k : Nat) (v : Bool) : Byte := BitVec.ofNat 8 v.toNat <<< k

/-- A rotate: A and CY written, the other flags untouched (R202 to R205). -/
def rotate (op v : Byte) (cy : Bool) (s : State) : State := ((s.setCY cy).setReg .a v).advance op

/-! ## The instructions -/

/-- RLC (R202). -/
def execRlc (s : State) : Result := .next (rotate 0x07#8 (s.a <<< 1 ||| bitAt 0 s.a[7]) s.a[7] s)

/-- RRC (R203). -/
def execRrc (s : State) : Result := .next (rotate 0x0F#8 (s.a >>> 1 ||| bitAt 7 s.a[0]) s.a[0] s)

/-- RAL (R204). -/
def execRal (s : State) : Result := .next (rotate 0x17#8 (s.a <<< 1 ||| bitAt 0 s.flags.cy) s.a[7] s)

/-- RAR (R205). -/
def execRar (s : State) : Result := .next (rotate 0x1F#8 (s.a >>> 1 ||| bitAt 7 s.flags.cy) s.a[0] s)

/-- CMA (R206). -/
def execCma (s : State) : Result := .next ((s.setReg .a (~~~s.a)).advance 0x2F#8)

/-- STC (R208). -/
def execStc (s : State) : Result := .next ((s.setCY true).advance 0x37#8)

/-- CMC (R207). -/
def execCmc (s : State) : Result := .next ((s.setCY (!s.flags.cy)).advance 0x3F#8)

/-- ANA B (R190). -/
def execAnaB (s : State) : Result := .next (anaA 0xA0#8 (s.readOp8 (.reg .b)) s)

/-- ANA C (R190). -/
def execAnaC (s : State) : Result := .next (anaA 0xA1#8 (s.readOp8 (.reg .c)) s)

/-- ANA D (R190). -/
def execAnaD (s : State) : Result := .next (anaA 0xA2#8 (s.readOp8 (.reg .d)) s)

/-- ANA E (R190). -/
def execAnaE (s : State) : Result := .next (anaA 0xA3#8 (s.readOp8 (.reg .e)) s)

/-- ANA H (R190). -/
def execAnaH (s : State) : Result := .next (anaA 0xA4#8 (s.readOp8 (.reg .h)) s)

/-- ANA L (R190). -/
def execAnaL (s : State) : Result := .next (anaA 0xA5#8 (s.readOp8 (.reg .l)) s)

/-- ANA M (R191). -/
def execAnaM (s : State) : Result := .next (anaA 0xA6#8 (s.readOp8 .mem) s)

/-- ANA A (R190). -/
def execAnaA (s : State) : Result := .next (anaA 0xA7#8 (s.readOp8 (.reg .a)) s)

/-- XRA B (R193). -/
def execXraB (s : State) : Result := .next (xraA 0xA8#8 (s.readOp8 (.reg .b)) s)

/-- XRA C (R193). -/
def execXraC (s : State) : Result := .next (xraA 0xA9#8 (s.readOp8 (.reg .c)) s)

/-- XRA D (R193). -/
def execXraD (s : State) : Result := .next (xraA 0xAA#8 (s.readOp8 (.reg .d)) s)

/-- XRA E (R193). -/
def execXraE (s : State) : Result := .next (xraA 0xAB#8 (s.readOp8 (.reg .e)) s)

/-- XRA H (R193). -/
def execXraH (s : State) : Result := .next (xraA 0xAC#8 (s.readOp8 (.reg .h)) s)

/-- XRA L (R193). -/
def execXraL (s : State) : Result := .next (xraA 0xAD#8 (s.readOp8 (.reg .l)) s)

/-- XRA M (R194). -/
def execXraM (s : State) : Result := .next (xraA 0xAE#8 (s.readOp8 .mem) s)

/-- XRA A (R193). -/
def execXraA (s : State) : Result := .next (xraA 0xAF#8 (s.readOp8 (.reg .a)) s)

/-- ORA B (R196). -/
def execOraB (s : State) : Result := .next (oraA 0xB0#8 (s.readOp8 (.reg .b)) s)

/-- ORA C (R196). -/
def execOraC (s : State) : Result := .next (oraA 0xB1#8 (s.readOp8 (.reg .c)) s)

/-- ORA D (R196). -/
def execOraD (s : State) : Result := .next (oraA 0xB2#8 (s.readOp8 (.reg .d)) s)

/-- ORA E (R196). -/
def execOraE (s : State) : Result := .next (oraA 0xB3#8 (s.readOp8 (.reg .e)) s)

/-- ORA H (R196). -/
def execOraH (s : State) : Result := .next (oraA 0xB4#8 (s.readOp8 (.reg .h)) s)

/-- ORA L (R196). -/
def execOraL (s : State) : Result := .next (oraA 0xB5#8 (s.readOp8 (.reg .l)) s)

/-- ORA M (R197). -/
def execOraM (s : State) : Result := .next (oraA 0xB6#8 (s.readOp8 .mem) s)

/-- ORA A (R196). -/
def execOraA (s : State) : Result := .next (oraA 0xB7#8 (s.readOp8 (.reg .a)) s)

/-- CMP B (R199). -/
def execCmpB (s : State) : Result := .next (cmpA 0xB8#8 (s.readOp8 (.reg .b)) s)

/-- CMP C (R199). -/
def execCmpC (s : State) : Result := .next (cmpA 0xB9#8 (s.readOp8 (.reg .c)) s)

/-- CMP D (R199). -/
def execCmpD (s : State) : Result := .next (cmpA 0xBA#8 (s.readOp8 (.reg .d)) s)

/-- CMP E (R199). -/
def execCmpE (s : State) : Result := .next (cmpA 0xBB#8 (s.readOp8 (.reg .e)) s)

/-- CMP H (R199). -/
def execCmpH (s : State) : Result := .next (cmpA 0xBC#8 (s.readOp8 (.reg .h)) s)

/-- CMP L (R199). -/
def execCmpL (s : State) : Result := .next (cmpA 0xBD#8 (s.readOp8 (.reg .l)) s)

/-- CMP M (R200). -/
def execCmpM (s : State) : Result := .next (cmpA 0xBE#8 (s.readOp8 .mem) s)

/-- CMP A (R199). -/
def execCmpA (s : State) : Result := .next (cmpA 0xBF#8 (s.readOp8 (.reg .a)) s)

/-- ANI d8 (R192). -/
def execAni (d8 : Byte) (s : State) : Result := .next (anaA 0xE6#8 d8 s)

/-- XRI d8 (R195). -/
def execXri (d8 : Byte) (s : State) : Result := .next (xraA 0xEE#8 d8 s)

/-- ORI d8 (R198). -/
def execOri (d8 : Byte) (s : State) : Result := .next (oraA 0xF6#8 d8 s)

/-- CPI d8 (R201). -/
def execCpi (d8 : Byte) (s : State) : Result := .next (cmpA 0xFE#8 d8 s)

end Sys2Proof.Machine
end

