-- ==== Sys2Proof/Machine/StackMachine.lean ====
section
/-! DEFINITION. The meanings of the stack, I/O and machine-control instructions (46_stack_machine), and of the twelve undefined opcode values (30_encoding R71). -/

namespace Sys2Proof.Machine

/-! ## The shared operations -/

/-- `Push16(RP[rp])`, or of PSW: PUSH (R240, R241). -/
def push (op : Byte) (p : StackPair) (s : State) : State := (s.push16 (s.stackPair p)).advance op

/-- `RP[rp] <- Pop16()`, or A and the flags from it: POP (R242, R243). -/
def pop (op : Byte) (p : StackPair) (s : State) : State := (s.dropTop.setStackPair p s.stackTop).advance op

/-- HL exchanged with the two bytes at SP; both reads precede both writes: XTHL (R244, R55). -/
def exchangeTopHL (op : Byte) (s : State) : State :=
  ((s.write16 s.sp s.hl).setPair .hl s.stackTop).advance op

/-! ## The instructions -/

/-- NOP (R251). -/
def execNop (s : State) : Result := .next (s.advance 0x00#8)

/-- The undefined opcode 0x08 (R71). -/
def execUndef08 (s : State) : Result := .next (s.raiseFault .undefinedOpcode)

/-- The undefined opcode 0x10 (R71). -/
def execUndef10 (s : State) : Result := .next (s.raiseFault .undefinedOpcode)

/-- The undefined opcode 0x18 (R71). -/
def execUndef18 (s : State) : Result := .next (s.raiseFault .undefinedOpcode)

/-- The undefined opcode 0x20 (R71). -/
def execUndef20 (s : State) : Result := .next (s.raiseFault .undefinedOpcode)

/-- The undefined opcode 0x28 (R71). -/
def execUndef28 (s : State) : Result := .next (s.raiseFault .undefinedOpcode)

/-- The undefined opcode 0x30 (R71). -/
def execUndef30 (s : State) : Result := .next (s.raiseFault .undefinedOpcode)

/-- The undefined opcode 0x38 (R71). -/
def execUndef38 (s : State) : Result := .next (s.raiseFault .undefinedOpcode)

/-- HLT (R250). -/
def execHlt (s : State) : Result := .next ((s.setRUN .halted).advance 0x76#8)

/-- POP B (R242). -/
def execPopB (s : State) : Result := .next (pop 0xC1#8 .bc s)

/-- PUSH B (R240). -/
def execPushB (s : State) : Result := .next (push 0xC5#8 .bc s)

/-- The undefined opcode 0xCB (R71). -/
def execUndefCB (s : State) : Result := .next (s.raiseFault .undefinedOpcode)

/-- POP D (R242). -/
def execPopD (s : State) : Result := .next (pop 0xD1#8 .de s)

/-- OUT d8 (R247). -/
def execOutPort (_port : Byte) (s : State) : Result := .next (s.raiseFault .notImplementedIO)

/-- PUSH D (R240). -/
def execPushD (s : State) : Result := .next (push 0xD5#8 .de s)

/-- The undefined opcode 0xD9 (R71). -/
def execUndefD9 (s : State) : Result := .next (s.raiseFault .undefinedOpcode)

/-- IN d8 (R246). -/
def execInPort (_port : Byte) (s : State) : Result := .next (s.raiseFault .notImplementedIO)

/-- The undefined opcode 0xDD (R71). -/
def execUndefDD (s : State) : Result := .next (s.raiseFault .undefinedOpcode)

/-- POP H (R242). -/
def execPopH (s : State) : Result := .next (pop 0xE1#8 .hl s)

/-- XTHL (R244). -/
def execXthl (s : State) : Result := .next (exchangeTopHL 0xE3#8 s)

/-- PUSH H (R240). -/
def execPushH (s : State) : Result := .next (push 0xE5#8 .hl s)

/-- The undefined opcode 0xED (R71). -/
def execUndefED (s : State) : Result := .next (s.raiseFault .undefinedOpcode)

/-- POP PSW (R243). -/
def execPopPSW (s : State) : Result := .next (pop 0xF1#8 .psw s)

/-- DI (R249). -/
def execDi (s : State) : Result := .next ((s.setINTE false).advance 0xF3#8)

/-- PUSH PSW (R241). -/
def execPushPSW (s : State) : Result := .next (push 0xF5#8 .psw s)

/-- SPHL (R245). -/
def execSphl (s : State) : Result := .next ((s.setSP s.hl).advance 0xF9#8)

/-- EI (R248). -/
def execEi (s : State) : Result := .next ((s.setINTE true).advance 0xFB#8)

/-- The undefined opcode 0xFD (R71). -/
def execUndefFD (s : State) : Result := .next (s.raiseFault .undefinedOpcode)

end Sys2Proof.Machine
end

