-- ==== Sys2Proof/Machine/Step.lean ====
section
/-! DEFINITION. One step of the dispatch loop (47_dispatch_step). -/

namespace Sys2Proof.Machine

/-- `step` (R260): a core that is not Running takes no step, its state is unchanged for ever; a Running core executes the
instruction at PC, whose meaning alone determines the new PC and the cost (R261). -/
def step (s : State) : Host.Outcome State Fault Refusal :=
  match s.run with
  | .running => exec s.fetch s
  | .halted => .next s
  | .faulted _ => .next s

/-- The state with a word of the opcode table stored at PC, where the next step fetches it, and the core Running, so that the
very next step executes it (log entry 7). It stands for the load of a program into MEM0 (R302). -/
def State.withFetchWord (s : State) (nbits w : Nat) : State :=
  (((s.write s.pc (tableByte nbits w 0)).write (s.pc + 1) (tableByte nbits w 1)).write (s.pc + 2)
    (tableByte nbits w 2)).setRUN .running

end Sys2Proof.Machine
end

