-- ==== Sys2Proof/Machine/Effects.lean ====
section
/-! DEFINITION. The spec's summary tables as functions of the instruction: which condition it tests (R66), which registers it
writes (R21), when it writes SP (R15), which flags it writes (R25) and where it writes memory (R131). No meaning calls them:
they are the terms in which the frame statements are written. -/

namespace Sys2Proof.Machine

/-- The condition that a conditional jump, call or return tests (R66, R221, R223, R225). -/
def condOf : Instr → Option Cond
  | .jnz _ => some .nz
  | .jz _ => some .z
  | .jnc _ => some .nc
  | .jc _ => some .c
  | .jpo _ => some .po
  | .jpe _ => some .pe
  | .jp _ => some .p
  | .jm _ => some .m
  | .cnz _ => some .nz
  | .cz _ => some .z
  | .cnc _ => some .nc
  | .cc _ => some .c
  | .cpo _ => some .po
  | .cpe _ => some .pe
  | .cp _ => some .p
  | .cm _ => some .m
  | .rnz => some .nz
  | .rz => some .z
  | .rnc => some .nc
  | .rc => some .c
  | .rpo => some .po
  | .rpe => some .pe
  | .rp => some .p
  | .rm => some .m
  | _ => none

/-- The condition of a conditional instruction holds; false for every other instruction. -/
def taken (i : Instr) (f : Flags) : Bool := (condOf i).any (condHolds f)

/-- The 8-bit registers that an instruction writes (R21); writing a pair writes both of its registers. -/
def destRegs : Instr → List Reg8
  | .rlc | .ldaxB | .rrc | .ral | .ldaxD | .rar | .cma | .lda _ | .inrA | .dcrA | .mviA _ | .movAB | .movAC |
    .movAD | .movAE | .movAH | .movAL | .movAM | .movAA | .addB | .addC | .addD | .addE | .addH | .addL | .addM |
    .addA | .adcB | .adcC | .adcD | .adcE | .adcH | .adcL | .adcM | .adcA | .subB | .subC | .subD | .subE | .subH |
    .subL | .subM | .subA | .sbbB | .sbbC | .sbbD | .sbbE | .sbbH | .sbbL | .sbbM | .sbbA | .anaB | .anaC | .anaD |
    .anaE | .anaH | .anaL | .anaM | .anaA | .xraB | .xraC | .xraD | .xraE | .xraH | .xraL | .xraM | .xraA | .oraB |
    .oraC | .oraD | .oraE | .oraH | .oraL | .oraM | .oraA | .adi _ | .aci _ | .sui _ | .sbi _ | .ani _ | .xri _ |
    .popPSW | .ori _ => [.a]
  | .inrB | .dcrB | .mviB _ | .movBB | .movBC | .movBD | .movBE | .movBH | .movBL | .movBM | .movBA => [.b]
  | .inrC | .dcrC | .mviC _ | .movCB | .movCC | .movCD | .movCE | .movCH | .movCL | .movCM | .movCA => [.c]
  | .inrD | .dcrD | .mviD _ | .movDB | .movDC | .movDD | .movDE | .movDH | .movDL | .movDM | .movDA => [.d]
  | .inrE | .dcrE | .mviE _ | .movEB | .movEC | .movED | .movEE | .movEH | .movEL | .movEM | .movEA => [.e]
  | .inrH | .dcrH | .mviH _ | .movHB | .movHC | .movHD | .movHE | .movHH | .movHL | .movHM | .movHA => [.h]
  | .inrL | .dcrL | .mviL _ | .movLB | .movLC | .movLD | .movLE | .movLH | .movLL | .movLM | .movLA => [.l]
  | .lxiB _ | .inxB | .dcxB | .popB => [.b, .c]
  | .lxiD _ | .inxD | .dcxD | .popD => [.d, .e]
  | .dadB | .dadD | .lxiH _ | .inxH | .dadH | .lhld _ | .dcxH | .dadSP | .popH | .xthl => [.h, .l]
  | .xchg => [.d, .e, .h, .l]
  | _ => []

/-- The instruction writes SP, with these flags before it (R15, R21): a conditional call or return only when taken. -/
def writesSP (i : Instr) (f : Flags) : Bool :=
  match i with
  | .lxiSP _ | .inxSP | .dcxSP | .popB | .pushB | .rst0 | .ret | .call _ | .rst1 | .popD | .pushD | .rst2 | .rst3 |
    .popH | .pushH | .rst4 | .rst5 | .popPSW | .pushPSW | .rst6 | .sphl | .rst7 => true
  | .rnz | .cnz _ | .rz | .cz _ | .rnc | .cnc _ | .rc | .cc _ | .rpo | .cpo _ | .rpe | .cpe _ | .rp | .cp _ | .rm |
    .cm _ => taken i f
  | _ => false

/-- The instruction writes CY (R25). -/
def writesCY : Instr → Bool
  | .addB | .addC | .addD | .addE | .addH | .addL | .addM | .addA | .adcB | .adcC | .adcD | .adcE | .adcH | .adcL |
    .adcM | .adcA | .subB | .subC | .subD | .subE | .subH | .subL | .subM | .subA | .sbbB | .sbbC | .sbbD | .sbbE |
    .sbbH | .sbbL | .sbbM | .sbbA | .anaB | .anaC | .anaD | .anaE | .anaH | .anaL | .anaM | .anaA | .xraB | .xraC |
    .xraD | .xraE | .xraH | .xraL | .xraM | .xraA | .oraB | .oraC | .oraD | .oraE | .oraH | .oraL | .oraM | .oraA |
    .cmpB | .cmpC | .cmpD | .cmpE | .cmpH | .cmpL | .cmpM | .cmpA | .adi _ | .aci _ | .sui _ | .sbi _ | .ani _ |
    .xri _ | .popPSW | .ori _ | .cpi _ | .rlc | .dadB | .rrc | .ral | .dadD | .rar | .dadH | .stc | .dadSP |
    .cmc => true
  | _ => false

/-- The instruction writes AC, S, Z and P (R25): the same instructions for all four. -/
def writesACSZP : Instr → Bool
  | .addB | .addC | .addD | .addE | .addH | .addL | .addM | .addA | .adcB | .adcC | .adcD | .adcE | .adcH | .adcL |
    .adcM | .adcA | .subB | .subC | .subD | .subE | .subH | .subL | .subM | .subA | .sbbB | .sbbC | .sbbD | .sbbE |
    .sbbH | .sbbL | .sbbM | .sbbA | .anaB | .anaC | .anaD | .anaE | .anaH | .anaL | .anaM | .anaA | .xraB | .xraC |
    .xraD | .xraE | .xraH | .xraL | .xraM | .xraA | .oraB | .oraC | .oraD | .oraE | .oraH | .oraL | .oraM | .oraA |
    .cmpB | .cmpC | .cmpD | .cmpE | .cmpH | .cmpL | .cmpM | .cmpA | .adi _ | .aci _ | .sui _ | .sbi _ | .ani _ |
    .xri _ | .popPSW | .ori _ | .cpi _ | .inrB | .dcrB | .inrC | .dcrC | .inrD | .dcrD | .inrE | .dcrE | .inrH |
    .dcrH | .inrL | .dcrL | .inrM | .dcrM | .inrA | .dcrA => true
  | _ => false

/-- The addresses that an instruction writes, in a state (R131). They are computed by the expressions that the meanings use:
HL for M, the pair of STAX, the direct address, and the stack slots of the old SP. -/
def storesAt (i : Instr) (s : State) : List Word :=
  match i with
  | .inrM | .dcrM | .mviM _ | .movMB | .movMC | .movMD | .movME | .movMH | .movML | .movMA => [s.hl]
  | .sta a16 => [a16]
  | .shld a16 => [a16, a16 + 1]
  | .staxB => [s.pair .bc]
  | .staxD => [s.pair .de]
  | .pushB | .rst0 | .call _ | .rst1 | .pushD | .rst2 | .rst3 | .pushH | .rst4 | .rst5 | .pushPSW | .rst6 |
    .rst7 => [s.sp - 1, s.sp - 2]
  | .cnz _ | .cz _ | .cnc _ | .cc _ | .cpo _ | .cpe _ | .cp _ |
    .cm _ => if taken i s.flags then [s.sp - 1, s.sp - 2] else []
  | .xthl => [s.sp, s.sp + 1]
  | _ => []

/-- The address that an instruction transfers control to, if it does (R14, R220 to R227): "only jumps, calls, returns, RST and
PCHL assign a PC other than next". -/
def targetOf (i : Instr) (s : State) : Option Word :=
  match i with
  | .jmp a16 | .call a16 => some a16
  | .jnz a16 => if taken i s.flags then some a16 else none
  | .jz a16 => if taken i s.flags then some a16 else none
  | .jnc a16 => if taken i s.flags then some a16 else none
  | .jc a16 => if taken i s.flags then some a16 else none
  | .jpo a16 => if taken i s.flags then some a16 else none
  | .jpe a16 => if taken i s.flags then some a16 else none
  | .jp a16 => if taken i s.flags then some a16 else none
  | .jm a16 => if taken i s.flags then some a16 else none
  | .cnz a16 => if taken i s.flags then some a16 else none
  | .cz a16 => if taken i s.flags then some a16 else none
  | .cnc a16 => if taken i s.flags then some a16 else none
  | .cc a16 => if taken i s.flags then some a16 else none
  | .cpo a16 => if taken i s.flags then some a16 else none
  | .cpe a16 => if taken i s.flags then some a16 else none
  | .cp a16 => if taken i s.flags then some a16 else none
  | .cm a16 => if taken i s.flags then some a16 else none
  | .ret => some s.stackTop
  | .rnz | .rz | .rnc | .rc | .rpo | .rpe | .rp | .rm => if taken i s.flags then some s.stackTop else none
  | .rst0 => some 0x0000#16
  | .rst1 => some 0x0008#16
  | .rst2 => some 0x0010#16
  | .rst3 => some 0x0018#16
  | .rst4 => some 0x0020#16
  | .rst5 => some 0x0028#16
  | .rst6 => some 0x0030#16
  | .rst7 => some 0x0038#16
  | .pchl => some s.hl
  | _ => none

/-- The fault cause of an instruction (R280). -/
def faultOf : Instr → Option Fault
  | .undef08 | .undef10 | .undef18 | .undef20 | .undef28 | .undef30 | .undef38 | .undefCB | .undefD9 | .undefDD |
    .undefED | .undefFD => some .undefinedOpcode
  | .daa => some .notImplementedDAA
  | .inPort _ | .outPort _ => some .notImplementedIO
  | _ => none

end Sys2Proof.Machine
end

