-- ==== Sys2Proof/Safety.lean ====
section
/-! DEFINITION. Runs and how they end (47_dispatch_step section 3). -/

namespace Sys2Proof.Machine

/-- `run(s, n)`: at most `n` steps (R268). -/
def runFor (n : Nat) (s : State) : Result := Sys2Proof.core.run n s

/-- The run from `s` ends normally in `t`: RUN is Halted, the success condition (R263 case 1). -/
def EndsNormally (s t : State) : Prop := ∃ n, runFor n s = .next t ∧ t.run = .halted

/-- The run from `s` ends fatally in `t`, with a cause (R263 case 2). -/
def EndsFatally (s : State) (cause : Fault) (t : State) : Prop := ∃ n, runFor n s = .next t ∧ t.run = .faulted cause

/-- The run from `s` never ends (R263 case 3). -/
def NeverEnds (s : State) : Prop := ∀ n, ∃ t, runFor n s = .next t ∧ t.run = .running

/-- A safe run: no number of steps leads to a fault. -/
def SafeRun (s : State) : Prop := ∀ n, ∃ t, runFor n s = .next t ∧ ∀ cause, t.run ≠ .faulted cause

end Sys2Proof.Machine
end

