-- ==== Sys2Proof/Certificates/Slice0/Obligations.lean ====
section
/-! DEFINITION. The statements for the provers, and the terms they use. Every statement holds for every value of COST but
where its text names the default table, and for every ENTRY and MEM0 but where its text names the model's choice. -/

namespace Sys2Proof.Claims
open Sys2Proof.Machine

/-- The five flags of a result byte: S its bit 7, Z that it is 0, P that its number of set bits is even (R90 to R92), with the
CY and AC that the operation gives. -/
def resultFlags (v : Byte) (cy ac : Bool) : Flags :=
  { cy := cy, ac := ac, s := decide (128 ≤ v.toNat), z := decide (v.toNat = 0)
    p := decide (((List.range 8).filter fun k => v.getLsbD k).length % 2 = 0) }

/-- The state after adding `v` and a carry-in to A with an instruction of `len` bytes (R95, R160 to R165). -/
def added (s : State) (v : Byte) (cin : Nat) (len : Word) (op : Byte) : State :=
  { s with
    a := BitVec.ofNat 8 (s.a.toNat + v.toNat + cin)
    flags := resultFlags (BitVec.ofNat 8 (s.a.toNat + v.toNat + cin)) (decide (255 < s.a.toNat + v.toNat + cin))
      (decide (15 < s.a.toNat % 16 + v.toNat % 16 + cin))
    pc := s.pc + len
    cyc := s.cyc + cost op false }

/-- The state after subtracting `v` and a borrow-in from A with an instruction of `len` bytes (R96, R166 to R171). -/
def subtracted (s : State) (v : Byte) (bin : Nat) (len : Word) (op : Byte) : State :=
  { s with
    a := BitVec.ofInt 8 ((s.a.toNat : Int) - v.toNat - bin)
    flags := resultFlags (BitVec.ofInt 8 ((s.a.toNat : Int) - v.toNat - bin)) (decide (s.a.toNat < v.toNat + bin))
      (decide (v.toNat % 16 + bin ≤ s.a.toNat % 16))
    pc := s.pc + len
    cyc := s.cyc + cost op false }

/-- `t` is the state after a bitwise operation on A and `v` with an instruction of `len` bytes (R100, R190 to R198). -/
def Combined (f : Bool → Bool → Bool) (s : State) (v : Byte) (len : Word) (op : Byte) (t : State) : Prop :=
  (∀ k, k < 8 → t.a.getLsbD k = f (s.a.getLsbD k) (v.getLsbD k)) ∧
  t = { s with a := t.a, flags := resultFlags t.a false false, pc := s.pc + len, cyc := s.cyc + cost op false }

/-- `t` is `s` after a rotate, whatever A became: CY is the given bit, the other flags untouched (R202 to R205). -/
def Rotated (s : State) (cy : Bool) (op : Byte) (t : State) : Prop :=
  t = { s with a := t.a, flags := { s.flags with cy := cy }, pc := s.pc + 1, cyc := s.cyc + cost op false }

/-- `t` is the state after pushing a return address and jumping to a target (R222, R226). -/
def Called (s : State) (ret target : Word) (cost : Nat) (t : State) : Prop :=
  t = { s with mem := t.mem, sp := s.sp - 2, pc := target, cyc := s.cyc + cost } ∧
  (t.read (s.sp - 1)).toNat = ret.toNat / 256 ∧ (t.read (s.sp - 2)).toNat = ret.toNat % 256 ∧
  ∀ addr, addr ≠ s.sp - 1 → addr ≠ s.sp - 2 → t.read addr = s.read addr

/-- `t` is the state after a one-byte instruction that pushes two bytes (R128, R240, R241). -/
def Pushed (s : State) (hi lo : Byte) (op : Byte) (t : State) : Prop :=
  t = { s with mem := t.mem, sp := s.sp - 2, pc := s.pc + 1, cyc := s.cyc + cost op false } ∧
  t.read (s.sp - 1) = hi ∧ t.read (s.sp - 2) = lo ∧
  ∀ addr, addr ≠ s.sp - 1 → addr ≠ s.sp - 2 → t.read addr = s.read addr

end Sys2Proof.Claims

open Sys2Proof Sys2Proof.Machine

/-- The seven opcode bytes of R77, with operand bytes, decode to MVI A, INR A, HLT, MVI B, INR B, LXI H and MVI M, with
the lengths of R77: MVI 2 bytes, INR 1, HLT 1, LXI 3 (the byte after the instruction is left over); and a conditional
jump, with any condition and address, is 3 bytes long. [stated: R77] -/
def Obligations.DecodesTheWordsOfTheSpec : Prop :=
  decodeBytes [0x3E#8, 0x05#8, 0xFF#8] = .instr (.mviA 0x05#8) [0xFF#8] ∧
  decodeBytes [0x3C#8, 0xFF#8] = .instr .inrA [0xFF#8] ∧
  decodeBytes [0x76#8, 0xFF#8] = .instr .hlt [0xFF#8] ∧
  decodeBytes [0x06#8, 0xFF#8, 0xFF#8] = .instr (.mviB 0xFF#8) [0xFF#8] ∧
  decodeBytes [0x04#8, 0xFF#8] = .instr .inrB [0xFF#8] ∧
  decodeBytes [0x21#8, 0x00#8, 0x20#8, 0xFF#8] = .instr (.lxiH 0x2000#16) [0xFF#8] ∧
  decodeBytes [0x36#8, 0x42#8, 0xFF#8] = .instr (.mviM 0x42#8) [0xFF#8] ∧
  ∀ (a16 : Word) (cond : Cond), opcodeLength (opcodeOf (.ofJcc a16 cond)) = 3 ∧ (encode (.ofJcc a16 cond)).length = 3

/-- For every instruction, at every value of its operands, and every continuation: decoding its bytes followed by the
continuation gives that instruction and leaves exactly the continuation. [derived: 30_encoding.md section 3 (the
decode tree), 30_encoding.md section 7 (the opcode list)] -/
def Obligations.DecodingAnEncodingGivesTheInstruction : Prop :=
  ∀ (i : Instr) (rest : List Byte), decodeBytes (encode i ++ rest) = .instr i rest

/-- For every list of bytes that decodes to an instruction and a rest, the bytes are the encoding of that instruction
followed by the rest: no bit of an instruction is ignored by the decoder. [derived: 30_encoding.md section 3 (the
decode tree), 30_encoding.md section 7 (the opcode list)] -/
def Obligations.EncodingADecodedInstructionGivesTheBytes : Prop :=
  ∀ (bytes : List Byte) (i : Instr) (rest : List Byte), decodeBytes bytes = .instr i rest → encode i ++ rest = bytes

/-- The opcode byte of each family is the number its fields give: MOV 01 ddd sss, MVI 00 ddd 110, INR 00 ddd 100, DCR 00
ddd 101, ALU 10 alu sss, immediate ALU 11 alu 110, LXI 00 rp 0 001, INX 00 rp 0 011, DCX 00 rp 1 011, DAD 00 rp 1 001,
PUSH 11 rp 0 101, POP 11 rp 0 001, Jcc 11 ccc 010, Ccc 11 ccc 100, Rcc 11 ccc 000, RST 11 nnn 111; 16-bit operands low
byte first. [derived: 30_encoding.md sections 1 to 3, 10_state.md section 2 (R12, R13 field codes)] -/
def Obligations.OpcodeFieldsNameTheOperands : Prop :=
  (∀ dst src, (dst ≠ .mem ∨ src ≠ .mem) → encode (.ofMov dst src) = [BitVec.ofNat 8 (0b01000000 + 8 * dst.code + src.code)]) ∧
  (∀ v dst, encode (.ofMvi v dst) = [BitVec.ofNat 8 (0b00000110 + 8 * dst.code), v]) ∧
  (∀ dst, encode (.ofInr dst) = [BitVec.ofNat 8 (0b00000100 + 8 * dst.code)]) ∧
  (∀ dst, encode (.ofDcr dst) = [BitVec.ofNat 8 (0b00000101 + 8 * dst.code)]) ∧
  (∀ o s, encode (.ofAlu o s) = [BitVec.ofNat 8 (0b10000000 + 8 * o.code + s.code)]) ∧
  (∀ v o, encode (.ofAluImm v o) = [BitVec.ofNat 8 (0b11000110 + 8 * o.code), v]) ∧
  (∀ v p, encode (.ofLxi v p) = [BitVec.ofNat 8 (0b00000001 + 16 * p.code), loByte v, hiByte v]) ∧
  (∀ p, encode (.ofInx p) = [BitVec.ofNat 8 (0b00000011 + 16 * p.code)]) ∧
  (∀ p, encode (.ofDcx p) = [BitVec.ofNat 8 (0b00001011 + 16 * p.code)]) ∧
  (∀ p, encode (.ofDad p) = [BitVec.ofNat 8 (0b00001001 + 16 * p.code)]) ∧
  (∀ p, encode (.ofPush p) = [BitVec.ofNat 8 (0b11000101 + 16 * p.code)]) ∧
  (∀ p, encode (.ofPop p) = [BitVec.ofNat 8 (0b11000001 + 16 * p.code)]) ∧
  (∀ v cond, encode (.ofJcc v cond) = [BitVec.ofNat 8 (0b11000010 + 8 * cond.code), loByte v, hiByte v]) ∧
  (∀ v cond, encode (.ofCcc v cond) = [BitVec.ofNat 8 (0b11000100 + 8 * cond.code), loByte v, hiByte v]) ∧
  (∀ cond, encode (.ofRcc cond) = [BitVec.ofNat 8 (0b11000000 + 8 * cond.code)]) ∧
  (∀ n, n < 8 → encode (.ofRst n) = [BitVec.ofNat 8 (0b11000111 + 8 * n)])

/-- For every opcode byte and every operand bytes, decoding gives one of the 244 defined instructions unless the opcode is
0x08, 0x10, 0x18, 0x20, 0x28, 0x30, 0x38, 0xCB, 0xD9, 0xDD, 0xED or 0xFD, for which it does not. (That an undefined
opcode decodes to a term that Instr.wf refuses is log entry 6, DESIGN CHOICE; decision D4 of the spec keeps the twelve
undefined.) [derived: 30_encoding.md section 4 (undefined, faulting and special encodings)] -/
def Obligations.ExactlyTwelveOpcodesSelectNoInstruction : Prop :=
  ∀ op b2 b3 : Byte, (decode op b2 b3).wf = false ↔
    op ∈ [0x08#8, 0x10#8, 0x18#8, 0x20#8, 0x28#8, 0x30#8, 0x38#8, 0xCB#8, 0xD9#8, 0xDD#8, 0xED#8, 0xFD#8]

/-- If RUN is Running and the bytes at PC, PC + 1, PC + 2 (addresses wrapping modulo 65536), as many as the instruction is
long, are the encoding of i, then step is exec of i at that state. If RUN is not Running, step leaves the state
unchanged. An undefined opcode's execution is raise Fault(UndefinedOpcode), a next state with RUN =
Faulted(UndefinedOpcode) and nothing else changed. (The second clause rests on log entry 5, the third on the spec's
decisions D4 and D9 and on log entry 4: the model reads a fault and an ended run as next states, DEDUCED.) [derived:
47_dispatch_step.md section 1 (R260), 60_exceptions.md section 2 (R281), 30_encoding.md section 4 (R71),
92_eei_decisions.md (D4, D9)] -/
def Obligations.StepExecutesTheInstructionAtPC : Prop :=
  (∀ (s : State) (i : Instr), s.run = .running →
    (∀ k, (h : k < (encode i).length) → s.read (s.pc + BitVec.ofNat 16 k) = (encode i)[k]) → step s = exec i s) ∧
  (∀ s : State, s.run ≠ .running → step s = .next s) ∧
  (∀ (s : State) (i : Instr), i.wf = false → exec i s = .next { s with run := .faulted .undefinedOpcode })

/-- For every state with RUN = Running, step answers a next state; its RUN is Halted exactly when the opcode byte at PC is
0x76, Faulted(UndefinedOpcode) exactly for the twelve undefined bytes, Faulted(NotImplementedDAA) exactly for 0x27,
Faulted(NotImplementedIO) exactly for 0xDB and 0xD3, and Running for every other byte. (Decisions D4, D5, D6 and D8 of
the spec; that a fault is a next state is log entry 4, DEDUCED.) [derived: 47_dispatch_step.md section 2 (run status),
60_exceptions.md section 1 (causes)] -/
def Obligations.RunStatusFollowsTheOpcode : Prop :=
  ∀ s : State, s.run = .running → ∃ t, step s = .next t ∧
    (t.run = .halted ↔ s.read s.pc = 0x76#8) ∧
    (t.run = .faulted .undefinedOpcode ↔ s.read s.pc ∈ [0x08#8, 0x10#8, 0x18#8, 0x20#8, 0x28#8, 0x30#8, 0x38#8,
      0xCB#8, 0xD9#8, 0xDD#8, 0xED#8, 0xFD#8]) ∧
    (t.run = .faulted .notImplementedDAA ↔ s.read s.pc = 0x27#8) ∧
    (t.run = .faulted .notImplementedIO ↔ s.read s.pc = 0xDB#8 ∨ s.read s.pc = 0xD3#8)

/-- If a step of a Running core leads to a Faulted state, that state is the one before with RUN = Faulted(cause): every
register, flag, PC, SP, INTE, cyc and memory cell keeps its value (the spec's decision D9; that a fault is a next
state is log entry 4, DEDUCED). [derived: 60_exceptions.md section 2 (what a fault does), 47_dispatch_step.md section
4 (laws of the loop)] -/
def Obligations.AFaultChangesNothingButRun : Prop :=
  ∀ (s t : State) (cause : Fault), s.run = .running → step s = .next t → t.run = .faulted cause →
    t = { s with run := .faulted cause }

/-- In every state: DAA gives RUN = Faulted(2); IN d8 and OUT d8, for every port byte, give RUN = Faulted(3); each of the
twelve undefined opcodes gives RUN = Faulted(1); nothing else changes. The codes of the causes are 1, 2 and 3.
(Decisions D4, D5, D6, D9, D20 of the spec; that a fault is a next state is log entry 4, DEDUCED.) [derived:
43_arithmetic.md section 5 (decimal adjust), 46_stack_machine.md section 2 (input and output), 30_encoding.md section
4, 60_exceptions.md section 2] -/
def Obligations.FaultingInstructionsRaiseTheirFault : Prop :=
  (∀ s, exec .daa s = .next { s with run := .faulted .notImplementedDAA }) ∧
  (∀ port s, exec (.inPort port) s = .next { s with run := .faulted .notImplementedIO }) ∧
  (∀ port s, exec (.outPort port) s = .next { s with run := .faulted .notImplementedIO }) ∧
  (∀ s, ∀ i ∈ [Instr.undef08, .undef10, .undef18, .undef20, .undef28, .undef30, .undef38, .undefCB, .undefD9, .undefDD,
    .undefED, .undefFD], exec i s = .next { s with run := .faulted .undefinedOpcode }) ∧
  Fault.code .undefinedOpcode = 1 ∧ Fault.code .notImplementedDAA = 2 ∧ Fault.code .notImplementedIO = 3

/-- For every state whose RUN is not Running and every number of steps, the run of that many steps ends in the same state.
(That such a step answers the same state is log entry 5, DEDUCED from R260 and R267.) [derived: 47_dispatch_step.md
sections 2 and 3, 60_exceptions.md section 6] -/
def Obligations.HaltedAndFaultedAreTerminal : Prop :=
  ∀ (n : Nat) (s : State), s.run ≠ .running → runFor n s = .next s

/-- For every state and bit b: a step from the state with INTE replaced by b gives the same next state as a step without
the change, but for INTE, which is 1 after a Running core's step with EI (0xFB) at PC, 0 after one with DI (0xF3) at
PC, and b after every other step. The same of the execution of every instruction. So INTE has no influence on which
instruction is fetched, whether one is executed, or what it does. (That nothing else writes INTE is R262. That a step
of a core that is not Running answers a next state is log entry 5, that a faulting instruction does is log entry 4,
both DEDUCED.) [derived: 10_state.md section 6 (R18), 47_dispatch_step.md section 1 (R260, R262), 46_stack_machine.md
(R248, R249)] -/
def Obligations.InteIsWrittenByEiAndDiAndReadByNothing : Prop :=
  (∀ (s : State) (b : Bool), ∃ t, step s = .next t ∧
    step { s with inte := b } = .next { t with
      inte := if s.run = .running ∧ s.read s.pc = 0xFB#8 then true
        else if s.run = .running ∧ s.read s.pc = 0xF3#8 then false else b }) ∧
  ∀ (i : Instr) (s : State) (b : Bool), ∃ t, exec i s = .next t ∧
    exec i { s with inte := b } = .next { t with inte := if i = .ei then true else if i = .di then false else b }

/-- For every state and every number n: a step from the state with cyc replaced by n gives the same next state as a step
without the change, but for cyc, which has grown by the same amount. (That a step of a core that is not Running
answers a next state is log entry 5, that a faulting instruction does is log entry 4, both DEDUCED.) [derived:
10_state.md section 6 (cycle counter), 47_dispatch_step.md section 4] -/
def Obligations.CycIsReadByNothing : Prop :=
  ∀ (s : State) (n : Nat), ∃ t, step s = .next t ∧
    step { s with cyc := n } = .next { t with cyc := n + (t.cyc - s.cyc) }

/-- For every instruction and state with next state t: if it does not fault, cyc of t is cyc + COST(op, taken), with taken
the truth of its condition (COST(op) for one without a condition), and is greater than before (for the default table,
log entry 3); if it faults, cyc is unchanged (decision D9 of the spec; that a fault is a next state is log entry 4,
DEDUCED). [derived: 47_dispatch_step.md sections 1 and 4, 70_reset_and_hazards.md section 5] -/
def Obligations.EveryCompletingInstructionAddsItsCost : Prop :=
  ∀ (i : Instr) (s t : State), exec i s = .next t →
    (faultOf i = none → t.cyc = s.cyc + cost (opcodeOf i) (taken i s.flags) ∧ s.cyc < t.cyc) ∧
    (faultOf i ≠ none → t.cyc = s.cyc)

/-- MOV r,r 5; MOV r,M and MOV M,r 7; MVI r 7, MVI M 10; LXI 10; LDA, STA 13; LHLD, SHLD 16; LDAX, STAX 7; XCHG 4; ALU r
4, M 7, immediate 7; INR, DCR r 5, M 10; INX, DCX 5; DAD 10; rotates, CMA, CMC, STC 4; JMP 10, Jcc 10 and 10; CALL 17,
Ccc 11 and 17; RET 10, Rcc 5 and 11; RST 11; PCHL 5; PUSH 11; POP 10; XTHL 18; SPHL 5; EI, DI 4; HLT 7; NOP 4.
[derived: 70_reset_and_hazards.md section 5 (default COST)] -/
def Obligations.CostsOfTheDefaultTable : Prop :=
  (∀ dst src, cost (opcodeOf (.ofMov (.reg dst) (.reg src))) false = 5) ∧
  (∀ r, cost (opcodeOf (.ofMov (.reg r) .mem)) false = 7 ∧ cost (opcodeOf (.ofMov .mem (.reg r))) false = 7) ∧
  (∀ v r, cost (opcodeOf (.ofMvi v (.reg r))) false = 7 ∧ cost (opcodeOf (.ofMvi v .mem)) false = 10) ∧
  (∀ v p, cost (opcodeOf (.ofLxi v p)) false = 10) ∧
  (∀ v, cost (opcodeOf (.lda v)) false = 13 ∧ cost (opcodeOf (.sta v)) false = 13 ∧
    cost (opcodeOf (.lhld v)) false = 16 ∧ cost (opcodeOf (.shld v)) false = 16) ∧
  (∀ i ∈ [Instr.ldaxB, .ldaxD, .staxB, .staxD], cost (opcodeOf i) false = 7) ∧
  (∀ o r, cost (opcodeOf (.ofAlu o (.reg r))) false = 4 ∧ cost (opcodeOf (.ofAlu o .mem)) false = 7) ∧
  (∀ v o, cost (opcodeOf (.ofAluImm v o)) false = 7) ∧
  (∀ r, cost (opcodeOf (.ofInr (.reg r))) false = 5 ∧ cost (opcodeOf (.ofDcr (.reg r))) false = 5) ∧
  cost (opcodeOf (.ofInr .mem)) false = 10 ∧ cost (opcodeOf (.ofDcr .mem)) false = 10 ∧
  (∀ p, cost (opcodeOf (.ofInx p)) false = 5 ∧ cost (opcodeOf (.ofDcx p)) false = 5 ∧
    cost (opcodeOf (.ofDad p)) false = 10) ∧
  (∀ i ∈ [Instr.rlc, .rrc, .ral, .rar, .cma, .cmc, .stc, .xchg, .ei, .di, .nop], cost (opcodeOf i) false = 4) ∧
  (∀ v cond taken, cost (opcodeOf (.jmp v)) false = 10 ∧ cost (opcodeOf (.ofJcc v cond)) taken = 10) ∧
  (∀ v cond, cost (opcodeOf (.call v)) false = 17 ∧ cost (opcodeOf (.ofCcc v cond)) false = 11 ∧
    cost (opcodeOf (.ofCcc v cond)) true = 17) ∧
  (∀ cond, cost (opcodeOf .ret) false = 10 ∧ cost (opcodeOf (.ofRcc cond)) false = 5 ∧
    cost (opcodeOf (.ofRcc cond)) true = 11) ∧
  (∀ n, cost (opcodeOf (.ofRst n)) false = 11) ∧
  (∀ p, cost (opcodeOf (.ofPush p)) false = 11 ∧ cost (opcodeOf (.ofPop p)) false = 10) ∧
  cost (opcodeOf .pchl) false = 5 ∧ cost (opcodeOf .sphl) false = 5 ∧ cost (opcodeOf .xthl) false = 18 ∧
  cost (opcodeOf .hlt) false = 7

/-- For every instruction and state with next state t: CY is unchanged unless the table of R25 says the instruction writes
it, and AC, S, Z and P are unchanged unless the table says it writes them. [derived: 10_state.md section 9 (what sets
and reads each flag), 47_dispatch_step.md section 1 (frame rule)] -/
def Obligations.FlagsFrame : Prop :=
  ∀ (i : Instr) (s t : State), exec i s = .next t →
    (writesCY i = false → t.flags.cy = s.flags.cy) ∧
    (writesACSZP i = false → t.flags.ac = s.flags.ac ∧ t.flags.s = s.flags.s ∧ t.flags.z = s.flags.z ∧
      t.flags.p = s.flags.p)

/-- For every instruction and state with next state t: each of A, B, C, D, E, H, L that is not a destination of the
instruction by R21 keeps its value, and SP keeps its value unless the instruction is one that R15 lists (a conditional
call or return only when taken). [derived: 10_state.md section 7 (who reaches which register), 47_dispatch_step.md
section 1 (frame rule)] -/
def Obligations.RegistersFrame : Prop :=
  ∀ (i : Instr) (s t : State), exec i s = .next t →
    (∀ r, r ∉ destRegs i → t.reg r = s.reg r) ∧ (writesSP i s.flags = false → t.sp = s.sp)

/-- For every instruction and state with next state t, and every address that is not among those that R131 gives the
instruction as written (HL for M; the direct address and the one after it; BC or DE for STAX; SP - 1 and SP - 2 of the
old SP for PUSH, CALL, taken Ccc and RST; SP and SP + 1 for XTHL; none for every other instruction), reading the byte
after gives what reading it before gave. [derived: 41_addressing.md section 3 (effective address of every memory-
touching instruction), 47_dispatch_step.md section 1 (frame rule)] -/
def Obligations.MemoryFrame : Prop :=
  ∀ (i : Instr) (s t : State), exec i s = .next t → ∀ addr, addr ∉ storesAt i s → t.read addr = s.read addr

/-- For every instruction and state with next state t: if the instruction transfers control, PC is the target of its rule
(jump and call address, popped address, 8 * n, HL); if it faults, PC is unchanged; otherwise PC is PC + len modulo
65536, len the number of bytes of its encoding. (That a fault leaves PC is decision D9 of the spec; that it is a next
state is log entry 4, DEDUCED.) [derived: 10_state.md section 3 (program counter), 47_dispatch_step.md section 1,
60_exceptions.md section 2] -/
def Obligations.ProgramCounterRule : Prop :=
  ∀ (i : Instr) (s t : State), exec i s = .next t →
    (∀ target, targetOf i s = some target → t.pc = target) ∧
    (targetOf i s = none → faultOf i = none → t.pc = s.pc + BitVec.ofNat 16 (encode i).length) ∧
    (faultOf i ≠ none → t.pc = s.pc)

/-- For every instruction other than PUSH PSW, every state and every bit b: running it with AC replaced by b gives the
same next state as without the change, but for AC itself where the instruction does not write it. [derived:
10_state.md section 9] -/
def Obligations.AuxiliaryCarryIsReadOnlyByPushPSW : Prop :=
  ∀ (i : Instr) (s t : State) (b : Bool), i ≠ .pushPSW → exec i s = .next t →
    exec i { s with flags := { s.flags with ac := b } } =
      .next { t with flags := { t.flags with ac := if writesACSZP i then t.flags.ac else b } }

/-- For every state whose memory is in canonical form (keys strictly rising, each a 16-bit address, no cell equal to what
an unlisted address reads as), the memory after a step is in canonical form. (The canonical form is the model's own
representation of memory, not the spec's: log entry 2, DESIGN CHOICE.) [derived: 20_memory.md section 1 (what memory
holds), 47_dispatch_step.md section 1 (step)] -/
def Obligations.EveryStepKeepsMemoryCanonical : Prop :=
  ∀ s t : State, s.mem.wf → step s = .next t → t.mem.wf

/-- The memory of State.reset, and of reset with any ENTRY and any MEM0, is in canonical form. (The canonical form is the
model's own representation of memory, not the spec's: log entry 2, DESIGN CHOICE.) [derived: 70_reset_and_hazards.md
section 1] -/
def Obligations.ResetMemoryIsCanonical : Prop :=
  State.reset.mem.wf ∧ ∀ (entry : Word) (mem0 : Word → Byte), (State.resetWith entry mem0).mem.wf

/-- If two memories are in canonical form and every 16-bit address reads the same in both, they are equal: comparing
states compares what memory holds. (The canonical form is the model's own representation of memory, not the spec's:
log entry 2, DESIGN CHOICE.) [derived: 20_memory.md section 1] -/
def Obligations.CanonicalMemoriesThatReadAlikeAreEqual : Prop :=
  ∀ m m' : Memory, m.wf → m'.wf → (∀ addr, m.read addr = m'.read addr) → m = m'

/-- Writing v at addr changes only memory, leaves every other address as it was, and after any sequence of further writes
to other addresses reading addr gives v. [stated: R42] -/
def Obligations.MemWriteSetsOneCellUntilItIsWrittenAgain : Prop :=
  ∀ (s : State) (addr : Word) (v : Byte),
    (s.write addr v = { s with mem := (s.write addr v).mem }) ∧
    (∀ other, other ≠ addr → (s.write addr v).read other = s.read other) ∧
    (∀ later : List (Word × Byte), (∀ w ∈ later, w.1 ≠ addr) →
      (later.foldl (fun t w => t.write w.1 w.2) (s.write addr v)).read addr = v)

/-- The value read at addr is 256 times the byte at addr + 1 (modulo 65536) plus the byte at addr; writing v there puts v
mod 256 at addr and v / 256 at addr + 1, leaves every other byte, and reads back as v. At 0xFFFF the high byte is at
0x0000. [derived: 20_memory.md sections 1 and 2] -/
def Obligations.TwoByteAccessesAreLittleEndianAndWrap : Prop :=
  (∀ (s : State) (addr : Word), (s.read16 addr).toNat = 256 * (s.read (addr + 1)).toNat + (s.read addr).toNat) ∧
  (∀ (s : State) (addr v : Word), ((s.write16 addr v).read addr).toNat = v.toNat % 256 ∧
    ((s.write16 addr v).read (addr + 1)).toNat = v.toNat / 256 ∧ (s.write16 addr v).read16 addr = v ∧
    ∀ other, other ≠ addr → other ≠ addr + 1 → (s.write16 addr v).read other = s.read other) ∧
  (∀ s : State, (s.read16 0xFFFF#16).toNat = 256 * (s.read 0x0000#16).toNat + (s.read 0xFFFF#16).toNat)

/-- Writing one register sets it and changes no other register nor any other state. BC, DE and HL are (high << 8) | low;
writing a pair sets its high register to bits 15..8 and its low register to bits 7..0, and reads back. The codes of
the pairs are 0, 1, 2, 3. Code 3 is SP in LXI, INX, DCX, DAD and PSW in PUSH, POP. [stated: R13] -/
def Obligations.RegistersAreIndependentAndPairsAreViews : Prop :=
  (∀ (s : State) (r r' : Reg8) (v : Byte), (s.setReg r v).reg r' = if r' = r then v else s.reg r') ∧
  (∀ (s : State) (r : Reg8) (v : Byte), (s.setReg r v).sp = s.sp ∧ (s.setReg r v).pc = s.pc ∧
    (s.setReg r v).flags = s.flags ∧ (s.setReg r v).inte = s.inte ∧ (s.setReg r v).run = s.run ∧
    (s.setReg r v).cyc = s.cyc ∧ (s.setReg r v).mem = s.mem) ∧
  (∀ s : State, (s.pair .bc).toNat = 256 * s.b.toNat + s.c.toNat ∧ (s.pair .de).toNat = 256 * s.d.toNat + s.e.toNat ∧
    (s.pair .hl).toNat = 256 * s.h.toNat + s.l.toNat ∧ s.pair .sp = s.sp) ∧
  (∀ (s : State) (v : Word), s.setPair .bc v = { s with b := hiByte v, c := loByte v } ∧
    s.setPair .de v = { s with d := hiByte v, e := loByte v } ∧
    s.setPair .hl v = { s with h := hiByte v, l := loByte v } ∧ s.setPair .sp v = { s with sp := v } ∧
    (hiByte v).toNat = v.toNat / 256 ∧ (loByte v).toNat = v.toNat % 256) ∧
  (∀ (s : State) (p : RegPair) (v : Word), (s.setPair p v).pair p = v) ∧
  (∀ p, RegPair.ofCode p.code = p) ∧ (RegPair.code .bc, RegPair.code .de, RegPair.code .hl, RegPair.code .sp) = (0, 1, 2, 3) ∧
  (StackPair.code .bc, StackPair.code .de, StackPair.code .hl, StackPair.code .psw) = (0, 1, 2, 3)

/-- Each bit of FlagByte() is the flag or constant of R22's table; each flag of SetFlagsFromByte(v) is the bit of v that
R23 names; unpacking a packed byte gives the flags back, and packing an unpacked byte v gives (v & 0xD5) | 0x02. (The
constants of bits 5, 3, 1 are the spec's decision D15.) [derived: 10_state.md section 8 (the flag byte and PSW)] -/
def Obligations.FlagByteLayout : Prop :=
  (∀ f : Flags, (flagByte f)[7] = f.s ∧ (flagByte f)[6] = f.z ∧ (flagByte f)[5] = false ∧ (flagByte f)[4] = f.ac ∧
    (flagByte f)[3] = false ∧ (flagByte f)[2] = f.p ∧ (flagByte f)[1] = true ∧ (flagByte f)[0] = f.cy) ∧
  (∀ v : Byte, flagsOfByte v = { s := v[7], z := v[6], ac := v[4], p := v[2], cy := v[0] }) ∧
  (∀ f : Flags, flagsOfByte (flagByte f) = f) ∧
  (∀ v : Byte, flagByte (flagsOfByte v) = v &&& 0xD5#8 ||| 0x02#8)

/-- For every ENTRY and every total function MEM0, reset gives A to L = 0, SP = 0, PC = ENTRY, the five flags 0, INTE = 0,
RUN = Running, cyc = 0, and every address reads as MEM0 says. State.reset is this reset for the ENTRY and the fill
that the model chose (log entries 1 and 2). [derived: 70_reset_and_hazards.md section 1 (R300), 10_state.md section 11
(R27)] -/
def Obligations.ResetGivesEveryPieceOfState : Prop :=
  (∀ (entry : Word) (mem0 : Word → Byte),
    (∀ r, (State.resetWith entry mem0).reg r = 0#8) ∧ (State.resetWith entry mem0).sp = 0#16 ∧
    (State.resetWith entry mem0).pc = entry ∧ (State.resetWith entry mem0).flags = ⟨false, false, false, false, false⟩ ∧
    (State.resetWith entry mem0).inte = false ∧ (State.resetWith entry mem0).run = .running ∧
    (State.resetWith entry mem0).cyc = 0 ∧ ∀ addr, (State.resetWith entry mem0).read addr = mem0 addr) ∧
  State.reset = State.resetWith Config.entry (fun _ => Config.memFill)

/-- For every state and every v: after Push16(v) the byte at the old SP - 1 is the high byte of v, the byte at the old SP
- 2 its low byte, every other byte of memory is unchanged and SP is SP - 2; Pop16 then returns v, leaves SP at its old
value, and changes nothing else. [derived: 41_addressing.md section 2 (stack primitives)] -/
def Obligations.PushThenPopReturnsTheWord : Prop :=
  ∀ (s : State) (v : Word),
    (s.push16 v).read (s.sp - 1) = hiByte v ∧ (s.push16 v).read (s.sp - 2) = loByte v ∧ (s.push16 v).sp = s.sp - 2 ∧
    (∀ addr, addr ≠ s.sp - 1 → addr ≠ s.sp - 2 → (s.push16 v).read addr = s.read addr) ∧
    (s.push16 v).stackTop = v ∧ (s.push16 v).dropTop = { s with mem := (s.push16 v).mem }

/-- For every pair of BC, DE, HL, PSW and every state: after PUSH then POP of it, every register A to L, all five flags
and SP have their values from before. After PUSH of one of BC, DE, HL and POP of another, the second holds the value
of the first. [derived: 46_stack_machine.md section 1 (law R252)] -/
def Obligations.PushThenPopInstructionsRestoreThePair : Prop :=
  (∀ (p : StackPair) (s t u : State), exec (.ofPush p) s = .next t → exec (.ofPop p) t = .next u →
    (∀ r, u.reg r = s.reg r) ∧ u.flags = s.flags ∧ u.sp = s.sp ∧ u.stackPair p = s.stackPair p) ∧
  (∀ (p q : StackPair) (s t u : State), p ≠ .psw → q ≠ .psw → exec (.ofPush p) s = .next t →
    exec (.ofPop q) t = .next u → u.stackPair q = s.stackPair p)

/-- Two steps of a Running core: the first executes a CALL, a taken Ccc or an RST found at PC, the second a RET or a taken
Rcc found at the call's target, not overwritten by the push. Then PC is the address of the instruction following the
call, SP has its value from before, the two cells below it hold the return address, and registers, flags, INTE and RUN
are unchanged. [derived: 45_control_transfer.md section 6 (law R229)] -/
def Obligations.CallThenReturnResumesAfterTheCall : Prop :=
  ∀ (s : State) (callI retI : Instr) (target : Word), s.run = .running →
    (callI = .call target ∨ (∃ cond, callI = .ofCcc target cond ∧ condHolds s.flags cond = true) ∨
      ∃ n, n < 8 ∧ callI = .ofRst n ∧ target = BitVec.ofNat 16 (8 * n)) →
    (retI = .ret ∨ ∃ cond, retI = .ofRcc cond ∧ condHolds s.flags cond = true) →
    (∀ k, (h : k < (encode callI).length) → s.read (s.pc + BitVec.ofNat 16 k) = (encode callI)[k]) →
    target ≠ s.sp - 1 → target ≠ s.sp - 2 → s.read target = opcodeOf retI →
    ∃ u, runFor 2 s = .next u ∧ u.pc = s.pc + BitVec.ofNat 16 (encode callI).length ∧ u.sp = s.sp ∧
      u.read16 (s.sp - 2) = u.pc ∧ (∀ r, u.reg r = s.reg r) ∧ u.flags = s.flags ∧ u.inte = s.inte ∧ u.run = .running

/-- For every pair of registers (49 forms, MOV B,B to MOV A,A) the opcode is 01 ddd sss, and in every state the
instruction completes: the destination holds the source's value, PC is PC + 1, cyc has grown by COST(op), all else is
unchanged. [stated: R140] -/
def Obligations.MovRegisterToRegister : Prop :=
  ∀ (dst src : Reg8) (s : State), encode (.ofMov (.reg dst) (.reg src)) = [BitVec.ofNat 8 (0b01000000 + 8 * dst.code + src.code)] ∧
    exec (.ofMov (.reg dst) (.reg src)) s = .next { s.setReg dst (s.reg src) with
      pc := s.pc + 1, cyc := s.cyc + cost (opcodeOf (.ofMov (.reg dst) (.reg src))) false }

/-- For each register: MOV r,M (opcode 01 ddd 110) completes in every state with the register holding the byte at the old
HL; MOV M,r (opcode 01 110 sss) completes with the register's byte written at HL and no other byte of memory changed;
PC is PC + 1, cyc has grown by COST(op), all else is unchanged. [stated: R141, R142] -/
def Obligations.MovBetweenRegisterAndMemory : Prop :=
  ∀ (r : Reg8) (s : State), encode (.ofMov (.reg r) .mem) = [BitVec.ofNat 8 (0b01000110 + 8 * r.code)] ∧
    exec (.ofMov (.reg r) .mem) s = .next { s.setReg r (s.read (s.pair .hl)) with
      pc := s.pc + 1, cyc := s.cyc + cost (opcodeOf (.ofMov (.reg r) .mem)) false } ∧
    encode (.ofMov .mem (.reg r)) = [BitVec.ofNat 8 (0b01110000 + r.code)] ∧
    ∃ t, exec (.ofMov .mem (.reg r)) s = .next t ∧ t = { s with
      mem := t.mem, pc := s.pc + 1, cyc := s.cyc + cost (opcodeOf (.ofMov .mem (.reg r))) false } ∧
      t.read (s.pair .hl) = s.reg r ∧ ∀ addr, addr ≠ s.pair .hl → t.read addr = s.read addr

/-- For each register: MVI r,d8 (00 ddd 110, d8) completes in every state with the register holding d8. MVI M,d8 (0x36,
d8) completes with d8 written at HL and no other byte of memory changed. PC is PC + 2, cyc has grown by COST(op), all
else is unchanged. [stated: R143, R144] -/
def Obligations.MoveImmediate : Prop :=
  (∀ (r : Reg8) (v : Byte) (s : State), encode (.ofMvi v (.reg r)) = [BitVec.ofNat 8 (0b00000110 + 8 * r.code), v] ∧
    exec (.ofMvi v (.reg r)) s = .next { s.setReg r v with
      pc := s.pc + 2, cyc := s.cyc + cost (opcodeOf (.ofMvi v (.reg r))) false }) ∧
  (∀ (v : Byte) (s : State), encode (.mviM v) = [0x36#8, v] ∧
    ∃ t, exec (.mviM v) s = .next t ∧ t = { s with mem := t.mem, pc := s.pc + 2, cyc := s.cyc + cost 0x36#8 false } ∧
      t.read (s.pair .hl) = v ∧ ∀ addr, addr ≠ s.pair .hl → t.read addr = s.read addr)

/-- LXI B, D, H, SP (00 rp 0 001, low, high) complete in every state: the high register takes bits 15..8 and the low
register bits 7..0 of the immediate, or SP takes it whole; PC is PC + 3, cyc has grown by COST(op), all else is
unchanged. [stated: R145] -/
def Obligations.LoadPairImmediate : Prop :=
  (∀ (p : RegPair) (v : Word), encode (.ofLxi v p) = [BitVec.ofNat 8 (1 + 16 * p.code), loByte v, hiByte v]) ∧
  ∀ (v : Word) (s : State),
    exec (.lxiB v) s = .next { s with
      b := hiByte v, c := loByte v, pc := s.pc + 3, cyc := s.cyc + cost 0x01#8 false } ∧
    exec (.lxiD v) s = .next { s with
      d := hiByte v, e := loByte v, pc := s.pc + 3, cyc := s.cyc + cost 0x11#8 false } ∧
    exec (.lxiH v) s = .next { s with
      h := hiByte v, l := loByte v, pc := s.pc + 3, cyc := s.cyc + cost 0x21#8 false } ∧
    exec (.lxiSP v) s = .next { s with sp := v, pc := s.pc + 3, cyc := s.cyc + cost 0x31#8 false }

/-- LDA a16 (0x3A), LDAX B (0x0A), LDAX D (0x1A) complete in every state with A the byte at a16, BC, DE. STA a16 (0x32),
STAX B (0x02), STAX D (0x12) complete with A written at that address and no other byte of memory changed. PC is PC + 3
for LDA and STA, PC + 1 for the others; cyc has grown by COST(op); all else, BC and DE included, is unchanged.
[stated: R146, R147, R150, R151] -/
def Obligations.AccumulatorDirectAndIndirect : Prop :=
  ∀ (a16 : Word) (s : State),
    encode (.lda a16) = [0x3A#8, loByte a16, hiByte a16] ∧ encode (.sta a16) = [0x32#8, loByte a16, hiByte a16] ∧
    encode .ldaxB = [0x0A#8] ∧ encode .ldaxD = [0x1A#8] ∧ encode .staxB = [0x02#8] ∧ encode .staxD = [0x12#8] ∧
    exec (.lda a16) s = .next { s with a := s.read a16, pc := s.pc + 3, cyc := s.cyc + cost 0x3A#8 false } ∧
    exec .ldaxB s = .next { s with a := s.read (s.pair .bc), pc := s.pc + 1, cyc := s.cyc + cost 0x0A#8 false } ∧
    exec .ldaxD s = .next { s with a := s.read (s.pair .de), pc := s.pc + 1, cyc := s.cyc + cost 0x1A#8 false } ∧
    (∃ t, exec (.sta a16) s = .next t ∧ t = { s with
      mem := t.mem, pc := s.pc + 3, cyc := s.cyc + cost 0x32#8 false } ∧
      t.read a16 = s.a ∧ ∀ addr, addr ≠ a16 → t.read addr = s.read addr) ∧
    (∃ t, exec .staxB s = .next t ∧ t = { s with mem := t.mem, pc := s.pc + 1, cyc := s.cyc + cost 0x02#8 false } ∧
      t.read (s.pair .bc) = s.a ∧ ∀ addr, addr ≠ s.pair .bc → t.read addr = s.read addr) ∧
    ∃ t, exec .staxD s = .next t ∧ t = { s with mem := t.mem, pc := s.pc + 1, cyc := s.cyc + cost 0x12#8 false } ∧
      t.read (s.pair .de) = s.a ∧ ∀ addr, addr ≠ s.pair .de → t.read addr = s.read addr

/-- LHLD a16 (0x2A) completes in every state with L the byte at a16 and H the byte at a16 + 1. SHLD a16 (0x22) completes
with L written at a16 and H at a16 + 1 and no other byte changed. PC is PC + 3, cyc has grown by COST(op), all else is
unchanged. (L at the lower address is the spec's decision D22.) [derived: 42_data_transfer.md (LHLD, SHLD),
20_memory.md section 1] -/
def Obligations.LoadAndStoreHLDirect : Prop :=
  ∀ (a16 : Word) (s : State),
    encode (.lhld a16) = [0x2A#8, loByte a16, hiByte a16] ∧ encode (.shld a16) = [0x22#8, loByte a16, hiByte a16] ∧
    exec (.lhld a16) s = .next { s with
      l := s.read a16, h := s.read (a16 + 1), pc := s.pc + 3, cyc := s.cyc + cost 0x2A#8 false } ∧
    ∃ t, exec (.shld a16) s = .next t ∧ t = { s with
      mem := t.mem, pc := s.pc + 3, cyc := s.cyc + cost 0x22#8 false } ∧
      t.read a16 = s.l ∧ t.read (a16 + 1) = s.h ∧
      ∀ addr, addr ≠ a16 → addr ≠ a16 + 1 → t.read addr = s.read addr

/-- XCHG (0xEB) completes in every state with H, L and D, E exchanged, and applied twice restores both pairs. XTHL (0xE3)
completes with L the byte at SP, H the byte at SP + 1, the old L and H written there, no other byte changed and SP
unchanged. SPHL (0xF9) completes with SP the value of HL. PC is PC + 1, cyc has grown by COST(op), all else is
unchanged. [stated: R152, R244, R245] -/
def Obligations.ExchangesOfHL : Prop :=
  (encode .xchg = [0xEB#8] ∧ encode .xthl = [0xE3#8] ∧ encode .sphl = [0xF9#8]) ∧ ∀ s : State,
    exec .xchg s = .next { s with
      h := s.d, l := s.e, d := s.h, e := s.l, pc := s.pc + 1, cyc := s.cyc + cost 0xEB#8 false } ∧
    (∀ t u, exec .xchg s = .next t → exec .xchg t = .next u → ∀ r, u.reg r = s.reg r) ∧
    (∃ t, exec .xthl s = .next t ∧ t = { s with
      l := s.read s.sp, h := s.read (s.sp + 1), mem := t.mem, pc := s.pc + 1, cyc := s.cyc + cost 0xE3#8 false } ∧
      t.read s.sp = s.l ∧ t.read (s.sp + 1) = s.h ∧
      ∀ addr, addr ≠ s.sp → addr ≠ s.sp + 1 → t.read addr = s.read addr) ∧
    exec .sphl s = .next { s with sp := s.pair .hl, pc := s.pc + 1, cyc := s.cyc + cost 0xF9#8 false }

/-- For every byte and flags, zsp sets Z exactly when the byte is 0, S exactly when it is 128 or more, P exactly when an
even number of its eight bits are set. [stated: R90, R91, R92] -/
def Obligations.ZspOfAResultByte : Prop :=
  ∀ (v : Byte) (f : Flags), ((zsp v f).z = true ↔ v.toNat = 0) ∧ ((zsp v f).s = true ↔ 128 ≤ v.toNat) ∧
    ((zsp v f).p = true ↔ ((List.range 8).filter fun k => v.getLsbD k).length % 2 = 0)

/-- For each source (seven registers, M, an immediate) and every state, ADD and ADI (carry-in 0), ADC and ACI (carry-in
CY) complete: with sum = A + operand + carry-in, A is sum mod 256, CY is 1 iff sum > 255, AC is 1 iff the low nibbles
and the carry-in exceed 15 (that the carry-in takes part in AC is R95's derivation and the spec's decision D2), Z, S,
P are those of the result; PC advances by 1 (2 for an immediate), cyc grows by COST(op), all else is unchanged.
[derived: 43_arithmetic.md section 1 (R160 to R165), 40_alu_flags.md section 2 (R95), 92_eei_decisions.md (D1, D2)] -/
def Obligations.AddAndAddWithCarry : Prop :=
  (∀ (o : Operand8) (s : State),
    exec (.ofAlu .add o) s = .next (Sys2Proof.Claims.added s (s.readOp8 o) 0 1 (opcodeOf (.ofAlu .add o))) ∧
    exec (.ofAlu .adc o) s =
      .next (Sys2Proof.Claims.added s (s.readOp8 o) s.flags.cy.toNat 1 (opcodeOf (.ofAlu .adc o))) ∧
    encode (.ofAlu .add o) = [BitVec.ofNat 8 (0b10000000 + o.code)] ∧
    encode (.ofAlu .adc o) = [BitVec.ofNat 8 (0b10001000 + o.code)]) ∧
  ∀ (v : Byte) (s : State), encode (.adi v) = [0xC6#8, v] ∧ encode (.aci v) = [0xCE#8, v] ∧
    exec (.adi v) s = .next (Sys2Proof.Claims.added s v 0 2 0xC6#8) ∧
    exec (.aci v) s = .next (Sys2Proof.Claims.added s v s.flags.cy.toNat 2 0xCE#8)

/-- For each source and every state, SUB and SUI (borrow-in 0), SBB and SBI (borrow-in CY) complete: A is (A - operand -
borrow-in) mod 256, CY is 1 iff operand + borrow-in exceeds A, AC is 1 iff A's low nibble is at least the operand's
plus the borrow-in (the reading of AC is the spec's decision D2), Z, S, P are those of the result; PC advances by 1 (2
for an immediate), cyc grows by COST(op), all else is unchanged. [derived: 43_arithmetic.md section 2 (subtract),
40_alu_flags.md section 3 (R96)] -/
def Obligations.SubtractAndSubtractWithBorrow : Prop :=
  (∀ (o : Operand8) (s : State),
    exec (.ofAlu .sub o) s = .next (Sys2Proof.Claims.subtracted s (s.readOp8 o) 0 1 (opcodeOf (.ofAlu .sub o))) ∧
    exec (.ofAlu .sbb o) s =
      .next (Sys2Proof.Claims.subtracted s (s.readOp8 o) s.flags.cy.toNat 1 (opcodeOf (.ofAlu .sbb o))) ∧
    encode (.ofAlu .sub o) = [BitVec.ofNat 8 (0b10010000 + o.code)] ∧
    encode (.ofAlu .sbb o) = [BitVec.ofNat 8 (0b10011000 + o.code)]) ∧
  ∀ (v : Byte) (s : State), encode (.sui v) = [0xD6#8, v] ∧ encode (.sbi v) = [0xDE#8, v] ∧
    exec (.sui v) s = .next (Sys2Proof.Claims.subtracted s v 0 2 0xD6#8) ∧
    exec (.sbi v) s = .next (Sys2Proof.Claims.subtracted s v s.flags.cy.toNat 2 0xDE#8)

/-- For each source and every state, CMP and CPI complete with the five flags of subtracting the operand from A and no
other change than PC and cyc: in particular Z is 1 iff A equals the operand and CY is 1 iff A is less, unsigned. CMP A
is no special case (AC is the spec's decisions D2, D7). [derived: 44_logical.md section 2 (compare), 40_alu_flags.md
section 3 (R97)] -/
def Obligations.CompareSetsTheFlagsOfSubtraction : Prop :=
  (∀ (o : Operand8) (s : State), encode (.ofAlu .cmp o) = [BitVec.ofNat 8 (0b10111000 + o.code)] ∧
    exec (.ofAlu .cmp o) s = .next { s with
      flags := (Sys2Proof.Claims.subtracted s (s.readOp8 o) 0 1 0#8).flags
      pc := s.pc + 1, cyc := s.cyc + cost (opcodeOf (.ofAlu .cmp o)) false }) ∧
  (∀ (v : Byte) (s : State), encode (.cpi v) = [0xFE#8, v] ∧
    exec (.cpi v) s = .next { s with
      flags := (Sys2Proof.Claims.subtracted s v 0 2 0#8).flags
      pc := s.pc + 2, cyc := s.cyc + cost 0xFE#8 false }) ∧
  ∀ (s t : State) (o : Operand8), exec (.ofAlu .cmp o) s = .next t →
    (t.flags.z = true ↔ s.a = s.readOp8 o) ∧ (t.flags.cy = true ↔ s.a.toNat < (s.readOp8 o).toNat)

/-- For each register and every state INR r (00 ddd 100) completes with the register its old value plus 1 mod 256; INR M
(0x34) with the byte at HL so incremented and no other byte changed. AC is 1 iff the low nibble was 15, Z, S, P are
those of the result, CY is unchanged, PC is PC + 1, cyc grows by COST(op), all else is unchanged. [stated: R98, R172,
R173] -/
def Obligations.IncrementRegisterOrMemory : Prop :=
  (∀ (r : Reg8) (s : State), encode (.ofInr (.reg r)) = [BitVec.ofNat 8 (0b00000100 + 8 * r.code)] ∧
    exec (.ofInr (.reg r)) s = .next { s.setReg r (BitVec.ofNat 8 ((s.reg r).toNat + 1)) with
      flags := Sys2Proof.Claims.resultFlags (BitVec.ofNat 8 ((s.reg r).toNat + 1)) s.flags.cy
        (decide ((s.reg r).toNat % 16 = 15))
      pc := s.pc + 1, cyc := s.cyc + cost (opcodeOf (.ofInr (.reg r))) false }) ∧
  ∀ s : State, encode .inrM = [0x34#8] ∧ ∃ t, exec .inrM s = .next t ∧ t = { s with
      flags := Sys2Proof.Claims.resultFlags (BitVec.ofNat 8 ((s.read (s.pair .hl)).toNat + 1)) s.flags.cy
        (decide ((s.read (s.pair .hl)).toNat % 16 = 15))
      mem := t.mem, pc := s.pc + 1, cyc := s.cyc + cost 0x34#8 false } ∧
    t.read (s.pair .hl) = BitVec.ofNat 8 ((s.read (s.pair .hl)).toNat + 1) ∧
    ∀ addr, addr ≠ s.pair .hl → t.read addr = s.read addr

/-- For each register and every state DCR r (00 ddd 101) completes with the register its old value minus 1 mod 256; DCR M
(0x35) with the byte at HL so decremented and no other byte changed. AC is 1 iff the low nibble was not 0 (the spec's
decision D2), Z, S, P are those of the result, CY is unchanged, PC is PC + 1, cyc grows by COST(op), all else is
unchanged. [derived: 43_arithmetic.md section 3, 40_alu_flags.md section 4 (R99)] -/
def Obligations.DecrementRegisterOrMemory : Prop :=
  (∀ (r : Reg8) (s : State), encode (.ofDcr (.reg r)) = [BitVec.ofNat 8 (0b00000101 + 8 * r.code)] ∧
    exec (.ofDcr (.reg r)) s = .next { s.setReg r (BitVec.ofNat 8 ((s.reg r).toNat + 255)) with
      flags := Sys2Proof.Claims.resultFlags (BitVec.ofNat 8 ((s.reg r).toNat + 255)) s.flags.cy
        (decide ((s.reg r).toNat % 16 ≠ 0))
      pc := s.pc + 1, cyc := s.cyc + cost (opcodeOf (.ofDcr (.reg r))) false }) ∧
  ∀ s : State, encode .dcrM = [0x35#8] ∧ ∃ t, exec .dcrM s = .next t ∧ t = { s with
      flags := Sys2Proof.Claims.resultFlags (BitVec.ofNat 8 ((s.read (s.pair .hl)).toNat + 255)) s.flags.cy
        (decide ((s.read (s.pair .hl)).toNat % 16 ≠ 0))
      mem := t.mem, pc := s.pc + 1, cyc := s.cyc + cost 0x35#8 false } ∧
    t.read (s.pair .hl) = BitVec.ofNat 8 ((s.read (s.pair .hl)).toNat + 255) ∧
    ∀ addr, addr ≠ s.pair .hl → t.read addr = s.read addr

/-- For each of BC, DE, HL, SP and every state, INX (00 rp 0 011) and DCX (00 rp 1 011) complete: the pair or SP is its
old value plus or minus 1 mod 65536, PC is PC + 1, cyc grows by COST(op), all else, every flag included, is unchanged.
[stated: R176, R177] -/
def Obligations.IncrementAndDecrementPair : Prop :=
  ∀ (p : RegPair) (s : State), encode (.ofInx p) = [BitVec.ofNat 8 (0b00000011 + 16 * p.code)] ∧
    encode (.ofDcx p) = [BitVec.ofNat 8 (0b00001011 + 16 * p.code)] ∧
    exec (.ofInx p) s = .next { s.setPair p (BitVec.ofNat 16 ((s.pair p).toNat + 1)) with
      pc := s.pc + 1, cyc := s.cyc + cost (opcodeOf (.ofInx p)) false } ∧
    exec (.ofDcx p) s = .next { s.setPair p (BitVec.ofNat 16 ((s.pair p).toNat + 65535)) with
      pc := s.pc + 1, cyc := s.cyc + cost (opcodeOf (.ofDcx p)) false }

/-- For each of BC, DE, HL, SP and every state, DAD (00 rp 1 001) completes: HL is the sum mod 65536, CY is 1 iff the sum
exceeds 65535, the other four flags are unchanged, PC is PC + 1, cyc grows by COST(op), all else is unchanged.
[stated: R178, R102] -/
def Obligations.AddPairToHL : Prop :=
  ∀ (p : RegPair) (s : State), encode (.ofDad p) = [BitVec.ofNat 8 (0b00001001 + 16 * p.code)] ∧
    exec (.ofDad p) s = .next { s.setPair .hl (BitVec.ofNat 16 ((s.pair .hl).toNat + (s.pair p).toNat)) with
      flags := { s.flags with cy := decide (65535 < (s.pair .hl).toNat + (s.pair p).toNat) }
      pc := s.pc + 1, cyc := s.cyc + cost (opcodeOf (.ofDad p)) false }

/-- For each source and every state, the six mnemonics complete: bit k of A is the AND, exclusive OR or OR of bit k of A
and of the operand, CY and AC are 0, Z, S, P are those of the result, PC advances by 1 (2 for an immediate), cyc grows
by COST(op), all else is unchanged. [stated: R190, R191, R192, R193, R194, R195, R196, R197, R198] -/
def Obligations.LogicalOperations : Prop :=
  (∀ (o : Operand8) (s : State),
    encode (.ofAlu .ana o) = [BitVec.ofNat 8 (0b10100000 + o.code)] ∧
    encode (.ofAlu .xra o) = [BitVec.ofNat 8 (0b10101000 + o.code)] ∧
    encode (.ofAlu .ora o) = [BitVec.ofNat 8 (0b10110000 + o.code)] ∧
    (∃ t, exec (.ofAlu .ana o) s = .next t ∧ Sys2Proof.Claims.Combined and s (s.readOp8 o) 1 (opcodeOf (.ofAlu .ana o)) t) ∧
    (∃ t, exec (.ofAlu .xra o) s = .next t ∧ Sys2Proof.Claims.Combined xor s (s.readOp8 o) 1 (opcodeOf (.ofAlu .xra o)) t) ∧
    ∃ t, exec (.ofAlu .ora o) s = .next t ∧ Sys2Proof.Claims.Combined or s (s.readOp8 o) 1 (opcodeOf (.ofAlu .ora o)) t) ∧
  ∀ (v : Byte) (s : State), encode (.ani v) = [0xE6#8, v] ∧ encode (.xri v) = [0xEE#8, v] ∧ encode (.ori v) = [0xF6#8, v] ∧
    (∃ t, exec (.ani v) s = .next t ∧ Sys2Proof.Claims.Combined and s v 2 0xE6#8 t) ∧
    (∃ t, exec (.xri v) s = .next t ∧ Sys2Proof.Claims.Combined xor s v 2 0xEE#8 t) ∧
    ∃ t, exec (.ori v) s = .next t ∧ Sys2Proof.Claims.Combined or s v 2 0xF6#8 t

/-- In every state: RLC (0x07) gives A bit 0 its old bit 7 and bit k its old bit k - 1, CY the old bit 7; RRC (0x0F) gives
bit 7 the old bit 0 and bit k the old bit k + 1, CY the old bit 0; RAL (0x17) and RAR (0x1F) the same with the old CY
entering. AC, S, Z, P are unchanged, PC is PC + 1, cyc grows by COST(op), all else is unchanged. [stated: R202, R203,
R204, R205] -/
def Obligations.RotatesOfTheAccumulator : Prop :=
  (encode .rlc = [0x07#8] ∧ encode .rrc = [0x0F#8] ∧ encode .ral = [0x17#8] ∧ encode .rar = [0x1F#8]) ∧ ∀ s : State,
    (∃ t, exec .rlc s = .next t ∧ Sys2Proof.Claims.Rotated s (s.a.getLsbD 7) 0x07#8 t ∧
      t.a.getLsbD 0 = s.a.getLsbD 7 ∧ ∀ k, k < 7 → t.a.getLsbD (k + 1) = s.a.getLsbD k) ∧
    (∃ t, exec .rrc s = .next t ∧ Sys2Proof.Claims.Rotated s (s.a.getLsbD 0) 0x0F#8 t ∧
      t.a.getLsbD 7 = s.a.getLsbD 0 ∧ ∀ k, k < 7 → t.a.getLsbD k = s.a.getLsbD (k + 1)) ∧
    (∃ t, exec .ral s = .next t ∧ Sys2Proof.Claims.Rotated s (s.a.getLsbD 7) 0x17#8 t ∧
      t.a.getLsbD 0 = s.flags.cy ∧ ∀ k, k < 7 → t.a.getLsbD (k + 1) = s.a.getLsbD k) ∧
    ∃ t, exec .rar s = .next t ∧ Sys2Proof.Claims.Rotated s (s.a.getLsbD 0) 0x1F#8 t ∧
      t.a.getLsbD 7 = s.flags.cy ∧ ∀ k, k < 7 → t.a.getLsbD k = s.a.getLsbD (k + 1)

/-- In every state: CMA (0x2F) completes with A = 255 - A and no flag changed; CMC (0x3F) with CY inverted; STC (0x37)
with CY = 1; PC is PC + 1, cyc grows by COST(op), all else, the other four flags included, is unchanged. STC followed
by CMC clears CY. [stated: R206, R207, R208] -/
def Obligations.ComplementAndCarryInstructions : Prop :=
  (encode .cma = [0x2F#8] ∧ encode .cmc = [0x3F#8] ∧ encode .stc = [0x37#8]) ∧ ∀ s : State,
    exec .cma s = .next { s with a := BitVec.ofNat 8 (255 - s.a.toNat), pc := s.pc + 1, cyc := s.cyc + cost 0x2F#8 false } ∧
    exec .cmc s = .next { s with
      flags := { s.flags with cy := !s.flags.cy }, pc := s.pc + 1, cyc := s.cyc + cost 0x3F#8 false } ∧
    exec .stc s = .next { s with
      flags := { s.flags with cy := true }, pc := s.pc + 1, cyc := s.cyc + cost 0x37#8 false } ∧
    (∀ t u, exec .stc s = .next t → exec .cmc t = .next u → u.flags.cy = false)

/-- cond(0) to cond(7), the conditions of the field values 0 to 7, are Z = 0, Z = 1, CY = 0, CY = 1, P = 0, P = 1, S = 0,
S = 1; a condition changes with exactly the one flag it names, and AC is tested by none. [stated: R228] -/
def Obligations.ConditionsReadOneFlag : Prop :=
  ∀ f : Flags, (condHolds f (.ofCode 0) ↔ f.z = false) ∧ (condHolds f (.ofCode 1) ↔ f.z = true) ∧
    (condHolds f (.ofCode 2) ↔ f.cy = false) ∧ (condHolds f (.ofCode 3) ↔ f.cy = true) ∧
    (condHolds f (.ofCode 4) ↔ f.p = false) ∧ (condHolds f (.ofCode 5) ↔ f.p = true) ∧
    (condHolds f (.ofCode 6) ↔ f.s = false) ∧ (condHolds f (.ofCode 7) ↔ f.s = true) ∧
    ∀ cond b, condHolds { f with ac := b } cond = condHolds f cond ∧
      (cond ∉ [Cond.nz, .z] → condHolds { f with z := b } cond = condHolds f cond) ∧
      (cond ∉ [Cond.nc, .c] → condHolds { f with cy := b } cond = condHolds f cond) ∧
      (cond ∉ [Cond.po, .pe] → condHolds { f with p := b } cond = condHolds f cond) ∧
      (cond ∉ [Cond.p, .m] → condHolds { f with s := b } cond = condHolds f cond)

/-- In every state: JMP a16 (0xC3) completes with PC = a16, PCHL (0xE9) with PC = HL, Jcc a16 (11 ccc 010, eight
conditions) with PC = a16 if its condition holds, else PC + 3; cyc grows by COST(op) or COST(op, taken); all else is
unchanged. [stated: R220, R221, R227] -/
def Obligations.Jumps : Prop :=
  ∀ (a16 : Word) (cond : Cond) (s : State),
    encode (.jmp a16) = [0xC3#8, loByte a16, hiByte a16] ∧ encode .pchl = [0xE9#8] ∧
    encode (.ofJcc a16 cond) = [BitVec.ofNat 8 (0b11000010 + 8 * cond.code), loByte a16, hiByte a16] ∧
    exec (.jmp a16) s = .next { s with pc := a16, cyc := s.cyc + cost 0xC3#8 false } ∧
    exec .pchl s = .next { s with pc := s.pair .hl, cyc := s.cyc + cost 0xE9#8 false } ∧
    exec (.ofJcc a16 cond) s = .next { s with
      pc := if condHolds s.flags cond then a16 else s.pc + 3
      cyc := s.cyc + cost (opcodeOf (.ofJcc a16 cond)) (condHolds s.flags cond) }

/-- In every state: CALL a16 (0xCD) completes with the return address PC + 3 pushed (high byte at SP - 1, low byte at SP -
2, no other byte changed), SP = SP - 2 and PC = a16; Ccc a16 (11 ccc 100) likewise if its condition holds; otherwise
it completes with PC = PC + 3, no push. cyc grows by COST(op) or COST(op, taken); all else is unchanged. [stated:
R222, R223] -/
def Obligations.CallsAndConditionalCalls : Prop :=
  (∀ (a16 : Word) (s : State), encode (.call a16) = [0xCD#8, loByte a16, hiByte a16] ∧
    ∃ t, exec (.call a16) s = .next t ∧ Sys2Proof.Claims.Called s (s.pc + 3) a16 (cost 0xCD#8 false) t) ∧
  (∀ (a16 : Word) (cond : Cond) (s : State),
    encode (.ofCcc a16 cond) = [BitVec.ofNat 8 (0b11000100 + 8 * cond.code), loByte a16, hiByte a16] ∧
    (condHolds s.flags cond = true → ∃ t, exec (.ofCcc a16 cond) s = .next t ∧
      Sys2Proof.Claims.Called s (s.pc + 3) a16 (cost (opcodeOf (.ofCcc a16 cond)) true) t) ∧
    (condHolds s.flags cond = false → exec (.ofCcc a16 cond) s = .next { s with
      pc := s.pc + 3, cyc := s.cyc + cost (opcodeOf (.ofCcc a16 cond)) false }))

/-- For n = 0 to 7 and every state, RST n (11 nnn 111) completes with the return address PC + 1 pushed (high byte at SP -
1, low byte at SP - 2, no other byte changed), SP = SP - 2 and PC = 8 * n; cyc grows by COST(op); all else, INTE
included, is unchanged. (That the return address is the next instruction is the spec's own derivation in R226.)
[derived: 45_control_transfer.md section 5 (restart)] -/
def Obligations.Restarts : Prop :=
  ∀ (n : Nat) (s : State), n < 8 → encode (.ofRst n) = [BitVec.ofNat 8 (0b11000111 + 8 * n)] ∧
    ∃ t, exec (.ofRst n) s = .next t ∧
      Sys2Proof.Claims.Called s (s.pc + 1) (BitVec.ofNat 16 (8 * n)) (cost (opcodeOf (.ofRst n)) false) t

/-- In every state: RET (0xC9) completes with PC the byte at SP + 1 times 256 plus the byte at SP, and SP = SP + 2; Rcc
(11 ccc 000) likewise if its condition holds, else with PC = PC + 1 and SP unchanged; cyc grows by COST(op) or
COST(op, taken); all else, memory included, is unchanged. [stated: R224, R225] -/
def Obligations.Returns : Prop :=
  ∀ (cond : Cond) (s : State), encode .ret = [0xC9#8] ∧ encode (.ofRcc cond) = [BitVec.ofNat 8 (0b11000000 + 8 * cond.code)] ∧
    exec .ret s = .next { s with
      pc := BitVec.ofNat 16 (256 * (s.read (s.sp + 1)).toNat + (s.read s.sp).toNat)
      sp := s.sp + 2, cyc := s.cyc + cost 0xC9#8 false } ∧
    exec (.ofRcc cond) s = .next (if condHolds s.flags cond then
      { s with
        pc := BitVec.ofNat 16 (256 * (s.read (s.sp + 1)).toNat + (s.read s.sp).toNat)
        sp := s.sp + 2, cyc := s.cyc + cost (opcodeOf (.ofRcc cond)) true }
      else { s with pc := s.pc + 1, cyc := s.cyc + cost (opcodeOf (.ofRcc cond)) false })

/-- For each of BC, DE, HL and every state, PUSH (11 rp 0 101) completes: the high register is written at SP - 1, the low
register at SP - 2, no other byte changes, SP is SP - 2 modulo 65536, PC is PC + 1, cyc grows by COST(op), all else is
unchanged. [stated: R240] -/
def Obligations.PushPair : Prop :=
  ∀ s : State, encode .pushB = [0xC5#8] ∧ encode .pushD = [0xD5#8] ∧ encode .pushH = [0xE5#8] ∧
    (∃ t, exec .pushB s = .next t ∧ Sys2Proof.Claims.Pushed s s.b s.c 0xC5#8 t) ∧
    (∃ t, exec .pushD s = .next t ∧ Sys2Proof.Claims.Pushed s s.d s.e 0xD5#8 t) ∧
    ∃ t, exec .pushH s = .next t ∧ Sys2Proof.Claims.Pushed s s.h s.l 0xE5#8 t

/-- For each of BC, DE, HL and every state, POP (11 rp 0 001) completes: the low register takes the byte at SP, the high
register the byte at SP + 1, SP is SP + 2 modulo 65536, PC is PC + 1, cyc grows by COST(op), all else, flags and
memory included, is unchanged. [stated: R242] -/
def Obligations.PopPair : Prop :=
  ∀ s : State, encode .popB = [0xC1#8] ∧ encode .popD = [0xD1#8] ∧ encode .popH = [0xE1#8] ∧
    exec .popB s = .next { s with
      c := s.read s.sp, b := s.read (s.sp + 1), sp := s.sp + 2, pc := s.pc + 1, cyc := s.cyc + cost 0xC1#8 false } ∧
    exec .popD s = .next { s with
      e := s.read s.sp, d := s.read (s.sp + 1), sp := s.sp + 2, pc := s.pc + 1, cyc := s.cyc + cost 0xD1#8 false } ∧
    exec .popH s = .next { s with
      l := s.read s.sp, h := s.read (s.sp + 1), sp := s.sp + 2, pc := s.pc + 1, cyc := s.cyc + cost 0xE1#8 false }

/-- In every state: PUSH PSW (0xF5) completes with A at SP - 1 and S Z 0 AC 0 P 1 CY at SP - 2, no other byte changed, SP
= SP - 2. POP PSW (0xF1) completes with S, Z, AC, P, CY the bits 7, 6, 4, 2, 0 of the byte at SP, A the byte at SP +
1, SP = SP + 2. PC is PC + 1, cyc grows by COST(op), all else is unchanged. (Order and fixed bits are the spec's
decisions D15, D16.) [derived: 46_stack_machine.md section 1 (PUSH PSW, POP PSW), 10_state.md section 8] -/
def Obligations.PushAndPopPSW : Prop :=
  ∀ s : State, encode .pushPSW = [0xF5#8] ∧ encode .popPSW = [0xF1#8] ∧
    (∃ t, exec .pushPSW s = .next t ∧ Sys2Proof.Claims.Pushed s s.a (BitVec.ofNat 8 (128 * s.flags.s.toNat +
      64 * s.flags.z.toNat + 16 * s.flags.ac.toNat + 4 * s.flags.p.toNat + 2 + s.flags.cy.toNat)) 0xF5#8 t) ∧
    exec .popPSW s = .next { s with
      a := s.read (s.sp + 1)
      flags := { s := (s.read s.sp).getLsbD 7, z := (s.read s.sp).getLsbD 6, ac := (s.read s.sp).getLsbD 4,
                 p := (s.read s.sp).getLsbD 2, cy := (s.read s.sp).getLsbD 0 }
      sp := s.sp + 2, pc := s.pc + 1, cyc := s.cyc + cost 0xF1#8 false }

/-- In every state: HLT (0x76) completes with RUN = Halted (PC after it: the spec's decision D10), EI (0xFB) with INTE = 1
and DI (0xF3) with INTE = 0 at once (decision D18), NOP (0x00) with no other change; PC is PC + 1, cyc grows by
COST(op), all else is unchanged. [derived: 46_stack_machine.md sections 3 and 4] -/
def Obligations.HaltEnableDisableAndNop : Prop :=
  (encode .hlt = [0x76#8] ∧ encode .ei = [0xFB#8] ∧ encode .di = [0xF3#8] ∧ encode .nop = [0x00#8]) ∧ ∀ s : State,
    exec .hlt s = .next { s with run := .halted, pc := s.pc + 1, cyc := s.cyc + cost 0x76#8 false } ∧
    exec .ei s = .next { s with inte := true, pc := s.pc + 1, cyc := s.cyc + cost 0xFB#8 false } ∧
    exec .di s = .next { s with inte := false, pc := s.pc + 1, cyc := s.cyc + cost 0xF3#8 false } ∧
    exec .nop s = .next { s with pc := s.pc + 1, cyc := s.cyc + cost 0x00#8 false }

/-- Each word, written out from its own rule's encoding and followed by the byte 0xFF, decodes to its instruction and
leaves the 0xFF over: MOV B,C, MOV D,M, MOV M,A, LDA, STA, LHLD, SHLD, LDAX D, STAX B, XCHG, ADD E, ADC M, SUB H, SBB
L, SUI, DCR M, INX D, DCX H, DAD SP, DAA, ANA C, ORA A, XRI, CMP M, RLC, RRC, RAL, RAR, CMA, CMC, STC, JMP, JPE, CALL,
CC, RET, RNC, RST 5, PCHL, PUSH D, PUSH PSW, POP H, POP PSW, XTHL, SPHL, IN, OUT, EI, DI, NOP and the undefined byte
0xED (one byte long). (That IN and OUT carry their port byte and an undefined byte is a term of one byte is log entry
6, DESIGN CHOICE.) [derived: 42_data_transfer.md (R140 to R142, R146 to R152), 43_arithmetic.md (R160, R164, R166,
R168, R169, R175 to R179), 44_logical.md (R190, R195, R196, R200, R202 to R208), 45_control_transfer.md (R220 to
R227), 46_stack_machine.md (R240 to R249, R251), 30_encoding.md section 4 (R71)] -/
def Obligations.DecodesAWordOfEachOtherFamily : Prop :=
  decodeBytes [0x41#8, 0xFF#8] = .instr .movBC [0xFF#8] ∧
  decodeBytes [0x56#8, 0xFF#8] = .instr .movDM [0xFF#8] ∧
  decodeBytes [0x77#8, 0xFF#8] = .instr .movMA [0xFF#8] ∧
  decodeBytes [0x3A#8, 0x34#8, 0x12#8, 0xFF#8] = .instr (.lda 0x1234#16) [0xFF#8] ∧
  decodeBytes [0x32#8, 0x34#8, 0x12#8, 0xFF#8] = .instr (.sta 0x1234#16) [0xFF#8] ∧
  decodeBytes [0x2A#8, 0x34#8, 0x12#8, 0xFF#8] = .instr (.lhld 0x1234#16) [0xFF#8] ∧
  decodeBytes [0x22#8, 0x34#8, 0x12#8, 0xFF#8] = .instr (.shld 0x1234#16) [0xFF#8] ∧
  decodeBytes [0x1A#8, 0xFF#8] = .instr .ldaxD [0xFF#8] ∧
  decodeBytes [0x02#8, 0xFF#8] = .instr .staxB [0xFF#8] ∧
  decodeBytes [0xEB#8, 0xFF#8] = .instr .xchg [0xFF#8] ∧
  decodeBytes [0x83#8, 0xFF#8] = .instr .addE [0xFF#8] ∧
  decodeBytes [0x8E#8, 0xFF#8] = .instr .adcM [0xFF#8] ∧
  decodeBytes [0x94#8, 0xFF#8] = .instr .subH [0xFF#8] ∧
  decodeBytes [0x9D#8, 0xFF#8] = .instr .sbbL [0xFF#8] ∧
  decodeBytes [0xD6#8, 0x7F#8, 0xFF#8] = .instr (.sui 0x7F#8) [0xFF#8] ∧
  decodeBytes [0x35#8, 0xFF#8] = .instr .dcrM [0xFF#8] ∧
  decodeBytes [0x13#8, 0xFF#8] = .instr .inxD [0xFF#8] ∧
  decodeBytes [0x2B#8, 0xFF#8] = .instr .dcxH [0xFF#8] ∧
  decodeBytes [0x39#8, 0xFF#8] = .instr .dadSP [0xFF#8] ∧
  decodeBytes [0x27#8, 0xFF#8] = .instr .daa [0xFF#8] ∧
  decodeBytes [0xA1#8, 0xFF#8] = .instr .anaC [0xFF#8] ∧
  decodeBytes [0xB7#8, 0xFF#8] = .instr .oraA [0xFF#8] ∧
  decodeBytes [0xEE#8, 0x0F#8, 0xFF#8] = .instr (.xri 0x0F#8) [0xFF#8] ∧
  decodeBytes [0xBE#8, 0xFF#8] = .instr .cmpM [0xFF#8] ∧
  decodeBytes [0x07#8, 0xFF#8] = .instr .rlc [0xFF#8] ∧
  decodeBytes [0x0F#8, 0xFF#8] = .instr .rrc [0xFF#8] ∧
  decodeBytes [0x17#8, 0xFF#8] = .instr .ral [0xFF#8] ∧
  decodeBytes [0x1F#8, 0xFF#8] = .instr .rar [0xFF#8] ∧
  decodeBytes [0x2F#8, 0xFF#8] = .instr .cma [0xFF#8] ∧
  decodeBytes [0x3F#8, 0xFF#8] = .instr .cmc [0xFF#8] ∧
  decodeBytes [0x37#8, 0xFF#8] = .instr .stc [0xFF#8] ∧
  decodeBytes [0xC3#8, 0x00#8, 0x02#8, 0xFF#8] = .instr (.jmp 0x0200#16) [0xFF#8] ∧
  decodeBytes [0xEA#8, 0x00#8, 0x02#8, 0xFF#8] = .instr (.jpe 0x0200#16) [0xFF#8] ∧
  decodeBytes [0xCD#8, 0x00#8, 0x02#8, 0xFF#8] = .instr (.call 0x0200#16) [0xFF#8] ∧
  decodeBytes [0xDC#8, 0x00#8, 0x02#8, 0xFF#8] = .instr (.cc 0x0200#16) [0xFF#8] ∧
  decodeBytes [0xC9#8, 0xFF#8] = .instr .ret [0xFF#8] ∧
  decodeBytes [0xD0#8, 0xFF#8] = .instr .rnc [0xFF#8] ∧
  decodeBytes [0xEF#8, 0xFF#8] = .instr .rst5 [0xFF#8] ∧
  decodeBytes [0xE9#8, 0xFF#8] = .instr .pchl [0xFF#8] ∧
  decodeBytes [0xD5#8, 0xFF#8] = .instr .pushD [0xFF#8] ∧
  decodeBytes [0xF5#8, 0xFF#8] = .instr .pushPSW [0xFF#8] ∧
  decodeBytes [0xE1#8, 0xFF#8] = .instr .popH [0xFF#8] ∧
  decodeBytes [0xF1#8, 0xFF#8] = .instr .popPSW [0xFF#8] ∧
  decodeBytes [0xE3#8, 0xFF#8] = .instr .xthl [0xFF#8] ∧
  decodeBytes [0xF9#8, 0xFF#8] = .instr .sphl [0xFF#8] ∧
  decodeBytes [0xDB#8, 0x01#8, 0xFF#8] = .instr (.inPort 0x01#8) [0xFF#8] ∧
  decodeBytes [0xD3#8, 0x01#8, 0xFF#8] = .instr (.outPort 0x01#8) [0xFF#8] ∧
  decodeBytes [0xFB#8, 0xFF#8] = .instr .ei [0xFF#8] ∧
  decodeBytes [0xF3#8, 0xFF#8] = .instr .di [0xFF#8] ∧
  decodeBytes [0x00#8, 0xFF#8] = .instr .nop [0xFF#8] ∧
  decodeBytes [0xED#8, 0xFF#8] = .instr .undefED [0xFF#8]

/-- For all operands and flags: (1) add8(a, b, 0) sets CY exactly when a + b > 255 and returns (a + b) mod 256. (2) After
add8, sub8, inc8, dec8 and logic8 (AND, XOR, OR), Z is 1 exactly when the result byte is 0, and P exactly when an even
number of its eight bits are set; cmp8 sets the five flags of sub8(a, b, 0), whose result it discards. (3) inc8 and
dec8 leave CY. (4) add16 leaves AC, S, Z and P. (R106 is the spec's own derivation from R93, R95, R98, R99 and R102.)
[derived: 40_alu_flags.md section 8 (R106)] -/
def Obligations.LawsOfTheFlagUnit : Prop :=
  (∀ (a b : Byte) (f : Flags), ((add8 a b false f).2.cy = true ↔ 255 < a.toNat + b.toNat) ∧
    (add8 a b false f).1.toNat = (a.toNat + b.toNat) % 256) ∧
  (∀ (a b : Byte) (cin : Bool) (f : Flags), (∀ r ∈ [add8 a b cin f, sub8 a b cin f, inc8 a f, dec8 a f, and8 a b f,
      xor8 a b f, or8 a b f], (r.2.z = true ↔ r.1.toNat = 0) ∧
      (r.2.p = true ↔ ((List.range 8).filter fun k => r.1.getLsbD k).length % 2 = 0)) ∧
    cmp8 a b f = (sub8 a b false f).2) ∧
  (∀ (v : Byte) (f : Flags), (inc8 v f).2.cy = f.cy ∧ (dec8 v f).2.cy = f.cy) ∧
  ∀ (x y : Word) (f : Flags), (add16 x y f).2.ac = f.ac ∧ (add16 x y f).2.s = f.s ∧ (add16 x y f).2.z = f.z ∧
    (add16 x y f).2.p = f.p
end

