-- ==== Sys2Proof/Laws/Families.lean ====
section
/-! SUPPORT. The 256 constructors seen as the families of 30_encoding: a case split with one case for each family, what `exec`
does with each, and the length of its encoding. To prove something of every instruction, prove it of each family. -/

namespace Sys2Proof.Machine

/-- The shared operation of an ALU field (R65). -/
def aluA : AluOp → Byte → Byte → State → State
  | .add => addA
  | .adc => adcA
  | .sub => subA
  | .sbb => sbbA
  | .ana => anaA
  | .xra => xraA
  | .ora => oraA
  | .cmp => cmpA

/-- Every instruction belongs to a family (R70, R71). -/
theorem family_cases {P : Instr → Prop}
    (mov : ∀ dst src, dst ≠ .mem ∨ src ≠ .mem → P (.ofMov dst src)) (mvi : ∀ v dst, P (.ofMvi v dst))
    (inr : ∀ dst, P (.ofInr dst)) (dcr : ∀ dst, P (.ofDcr dst)) (alu : ∀ o src, P (.ofAlu o src))
    (aluImm : ∀ v o, P (.ofAluImm v o)) (lxi : ∀ v p, P (.ofLxi v p)) (inx : ∀ p, P (.ofInx p))
    (dcx : ∀ p, P (.ofDcx p)) (dad : ∀ p, P (.ofDad p)) (push : ∀ p, P (.ofPush p)) (pop : ∀ p, P (.ofPop p))
    (jcc : ∀ v cond, P (.ofJcc v cond)) (ccc : ∀ v cond, P (.ofCcc v cond)) (rcc : ∀ cond, P (.ofRcc cond))
    (rst : ∀ n, n < 8 → P (.ofRst n)) (nop : P .nop) (staxB : P .staxB) (rlc : P .rlc) (ldaxB : P .ldaxB)
    (rrc : P .rrc) (staxD : P .staxD) (ral : P .ral) (ldaxD : P .ldaxD) (rar : P .rar) (shld : ∀ v, P (.shld v))
    (lhld : ∀ v, P (.lhld v)) (cma : P .cma) (sta : ∀ v, P (.sta v)) (stc : P .stc) (lda : ∀ v, P (.lda v))
    (cmc : P .cmc) (hlt : P .hlt) (jmp : ∀ v, P (.jmp v)) (ret : P .ret) (call : ∀ v, P (.call v)) (xthl : P .xthl)
    (pchl : P .pchl) (xchg : P .xchg) (di : P .di) (sphl : P .sphl) (ei : P .ei)
    (fault : ∀ i cause, faultOf i = some cause → P i) :
    ∀ i, P i
  | .nop => nop
  | .lxiB d16 => lxi d16 .bc
  | .staxB => staxB
  | .inxB => inx .bc
  | .inrB => inr (.reg .b)
  | .dcrB => dcr (.reg .b)
  | .mviB d8 => mvi d8 (.reg .b)
  | .rlc => rlc
  | .undef08 => fault _ _ rfl
  | .dadB => dad .bc
  | .ldaxB => ldaxB
  | .dcxB => dcx .bc
  | .inrC => inr (.reg .c)
  | .dcrC => dcr (.reg .c)
  | .mviC d8 => mvi d8 (.reg .c)
  | .rrc => rrc
  | .undef10 => fault _ _ rfl
  | .lxiD d16 => lxi d16 .de
  | .staxD => staxD
  | .inxD => inx .de
  | .inrD => inr (.reg .d)
  | .dcrD => dcr (.reg .d)
  | .mviD d8 => mvi d8 (.reg .d)
  | .ral => ral
  | .undef18 => fault _ _ rfl
  | .dadD => dad .de
  | .ldaxD => ldaxD
  | .dcxD => dcx .de
  | .inrE => inr (.reg .e)
  | .dcrE => dcr (.reg .e)
  | .mviE d8 => mvi d8 (.reg .e)
  | .rar => rar
  | .undef20 => fault _ _ rfl
  | .lxiH d16 => lxi d16 .hl
  | .shld a16 => shld a16
  | .inxH => inx .hl
  | .inrH => inr (.reg .h)
  | .dcrH => dcr (.reg .h)
  | .mviH d8 => mvi d8 (.reg .h)
  | .daa => fault _ _ rfl
  | .undef28 => fault _ _ rfl
  | .dadH => dad .hl
  | .lhld a16 => lhld a16
  | .dcxH => dcx .hl
  | .inrL => inr (.reg .l)
  | .dcrL => dcr (.reg .l)
  | .mviL d8 => mvi d8 (.reg .l)
  | .cma => cma
  | .undef30 => fault _ _ rfl
  | .lxiSP d16 => lxi d16 .sp
  | .sta a16 => sta a16
  | .inxSP => inx .sp
  | .inrM => inr .mem
  | .dcrM => dcr .mem
  | .mviM d8 => mvi d8 .mem
  | .stc => stc
  | .undef38 => fault _ _ rfl
  | .dadSP => dad .sp
  | .lda a16 => lda a16
  | .dcxSP => dcx .sp
  | .inrA => inr (.reg .a)
  | .dcrA => dcr (.reg .a)
  | .mviA d8 => mvi d8 (.reg .a)
  | .cmc => cmc
  | .movBB => mov (.reg .b) (.reg .b) (by decide)
  | .movBC => mov (.reg .b) (.reg .c) (by decide)
  | .movBD => mov (.reg .b) (.reg .d) (by decide)
  | .movBE => mov (.reg .b) (.reg .e) (by decide)
  | .movBH => mov (.reg .b) (.reg .h) (by decide)
  | .movBL => mov (.reg .b) (.reg .l) (by decide)
  | .movBM => mov (.reg .b) .mem (by decide)
  | .movBA => mov (.reg .b) (.reg .a) (by decide)
  | .movCB => mov (.reg .c) (.reg .b) (by decide)
  | .movCC => mov (.reg .c) (.reg .c) (by decide)
  | .movCD => mov (.reg .c) (.reg .d) (by decide)
  | .movCE => mov (.reg .c) (.reg .e) (by decide)
  | .movCH => mov (.reg .c) (.reg .h) (by decide)
  | .movCL => mov (.reg .c) (.reg .l) (by decide)
  | .movCM => mov (.reg .c) .mem (by decide)
  | .movCA => mov (.reg .c) (.reg .a) (by decide)
  | .movDB => mov (.reg .d) (.reg .b) (by decide)
  | .movDC => mov (.reg .d) (.reg .c) (by decide)
  | .movDD => mov (.reg .d) (.reg .d) (by decide)
  | .movDE => mov (.reg .d) (.reg .e) (by decide)
  | .movDH => mov (.reg .d) (.reg .h) (by decide)
  | .movDL => mov (.reg .d) (.reg .l) (by decide)
  | .movDM => mov (.reg .d) .mem (by decide)
  | .movDA => mov (.reg .d) (.reg .a) (by decide)
  | .movEB => mov (.reg .e) (.reg .b) (by decide)
  | .movEC => mov (.reg .e) (.reg .c) (by decide)
  | .movED => mov (.reg .e) (.reg .d) (by decide)
  | .movEE => mov (.reg .e) (.reg .e) (by decide)
  | .movEH => mov (.reg .e) (.reg .h) (by decide)
  | .movEL => mov (.reg .e) (.reg .l) (by decide)
  | .movEM => mov (.reg .e) .mem (by decide)
  | .movEA => mov (.reg .e) (.reg .a) (by decide)
  | .movHB => mov (.reg .h) (.reg .b) (by decide)
  | .movHC => mov (.reg .h) (.reg .c) (by decide)
  | .movHD => mov (.reg .h) (.reg .d) (by decide)
  | .movHE => mov (.reg .h) (.reg .e) (by decide)
  | .movHH => mov (.reg .h) (.reg .h) (by decide)
  | .movHL => mov (.reg .h) (.reg .l) (by decide)
  | .movHM => mov (.reg .h) .mem (by decide)
  | .movHA => mov (.reg .h) (.reg .a) (by decide)
  | .movLB => mov (.reg .l) (.reg .b) (by decide)
  | .movLC => mov (.reg .l) (.reg .c) (by decide)
  | .movLD => mov (.reg .l) (.reg .d) (by decide)
  | .movLE => mov (.reg .l) (.reg .e) (by decide)
  | .movLH => mov (.reg .l) (.reg .h) (by decide)
  | .movLL => mov (.reg .l) (.reg .l) (by decide)
  | .movLM => mov (.reg .l) .mem (by decide)
  | .movLA => mov (.reg .l) (.reg .a) (by decide)
  | .movMB => mov .mem (.reg .b) (by decide)
  | .movMC => mov .mem (.reg .c) (by decide)
  | .movMD => mov .mem (.reg .d) (by decide)
  | .movME => mov .mem (.reg .e) (by decide)
  | .movMH => mov .mem (.reg .h) (by decide)
  | .movML => mov .mem (.reg .l) (by decide)
  | .hlt => hlt
  | .movMA => mov .mem (.reg .a) (by decide)
  | .movAB => mov (.reg .a) (.reg .b) (by decide)
  | .movAC => mov (.reg .a) (.reg .c) (by decide)
  | .movAD => mov (.reg .a) (.reg .d) (by decide)
  | .movAE => mov (.reg .a) (.reg .e) (by decide)
  | .movAH => mov (.reg .a) (.reg .h) (by decide)
  | .movAL => mov (.reg .a) (.reg .l) (by decide)
  | .movAM => mov (.reg .a) .mem (by decide)
  | .movAA => mov (.reg .a) (.reg .a) (by decide)
  | .addB => alu .add (.reg .b)
  | .addC => alu .add (.reg .c)
  | .addD => alu .add (.reg .d)
  | .addE => alu .add (.reg .e)
  | .addH => alu .add (.reg .h)
  | .addL => alu .add (.reg .l)
  | .addM => alu .add .mem
  | .addA => alu .add (.reg .a)
  | .adcB => alu .adc (.reg .b)
  | .adcC => alu .adc (.reg .c)
  | .adcD => alu .adc (.reg .d)
  | .adcE => alu .adc (.reg .e)
  | .adcH => alu .adc (.reg .h)
  | .adcL => alu .adc (.reg .l)
  | .adcM => alu .adc .mem
  | .adcA => alu .adc (.reg .a)
  | .subB => alu .sub (.reg .b)
  | .subC => alu .sub (.reg .c)
  | .subD => alu .sub (.reg .d)
  | .subE => alu .sub (.reg .e)
  | .subH => alu .sub (.reg .h)
  | .subL => alu .sub (.reg .l)
  | .subM => alu .sub .mem
  | .subA => alu .sub (.reg .a)
  | .sbbB => alu .sbb (.reg .b)
  | .sbbC => alu .sbb (.reg .c)
  | .sbbD => alu .sbb (.reg .d)
  | .sbbE => alu .sbb (.reg .e)
  | .sbbH => alu .sbb (.reg .h)
  | .sbbL => alu .sbb (.reg .l)
  | .sbbM => alu .sbb .mem
  | .sbbA => alu .sbb (.reg .a)
  | .anaB => alu .ana (.reg .b)
  | .anaC => alu .ana (.reg .c)
  | .anaD => alu .ana (.reg .d)
  | .anaE => alu .ana (.reg .e)
  | .anaH => alu .ana (.reg .h)
  | .anaL => alu .ana (.reg .l)
  | .anaM => alu .ana .mem
  | .anaA => alu .ana (.reg .a)
  | .xraB => alu .xra (.reg .b)
  | .xraC => alu .xra (.reg .c)
  | .xraD => alu .xra (.reg .d)
  | .xraE => alu .xra (.reg .e)
  | .xraH => alu .xra (.reg .h)
  | .xraL => alu .xra (.reg .l)
  | .xraM => alu .xra .mem
  | .xraA => alu .xra (.reg .a)
  | .oraB => alu .ora (.reg .b)
  | .oraC => alu .ora (.reg .c)
  | .oraD => alu .ora (.reg .d)
  | .oraE => alu .ora (.reg .e)
  | .oraH => alu .ora (.reg .h)
  | .oraL => alu .ora (.reg .l)
  | .oraM => alu .ora .mem
  | .oraA => alu .ora (.reg .a)
  | .cmpB => alu .cmp (.reg .b)
  | .cmpC => alu .cmp (.reg .c)
  | .cmpD => alu .cmp (.reg .d)
  | .cmpE => alu .cmp (.reg .e)
  | .cmpH => alu .cmp (.reg .h)
  | .cmpL => alu .cmp (.reg .l)
  | .cmpM => alu .cmp .mem
  | .cmpA => alu .cmp (.reg .a)
  | .rnz => rcc .nz
  | .popB => pop .bc
  | .jnz a16 => jcc a16 .nz
  | .jmp a16 => jmp a16
  | .cnz a16 => ccc a16 .nz
  | .pushB => push .bc
  | .adi d8 => aluImm d8 .add
  | .rst0 => rst 0 (by decide)
  | .rz => rcc .z
  | .ret => ret
  | .jz a16 => jcc a16 .z
  | .undefCB => fault _ _ rfl
  | .cz a16 => ccc a16 .z
  | .call a16 => call a16
  | .aci d8 => aluImm d8 .adc
  | .rst1 => rst 1 (by decide)
  | .rnc => rcc .nc
  | .popD => pop .de
  | .jnc a16 => jcc a16 .nc
  | .outPort _ => fault _ _ rfl
  | .cnc a16 => ccc a16 .nc
  | .pushD => push .de
  | .sui d8 => aluImm d8 .sub
  | .rst2 => rst 2 (by decide)
  | .rc => rcc .c
  | .undefD9 => fault _ _ rfl
  | .jc a16 => jcc a16 .c
  | .inPort _ => fault _ _ rfl
  | .cc a16 => ccc a16 .c
  | .undefDD => fault _ _ rfl
  | .sbi d8 => aluImm d8 .sbb
  | .rst3 => rst 3 (by decide)
  | .rpo => rcc .po
  | .popH => pop .hl
  | .jpo a16 => jcc a16 .po
  | .xthl => xthl
  | .cpo a16 => ccc a16 .po
  | .pushH => push .hl
  | .ani d8 => aluImm d8 .ana
  | .rst4 => rst 4 (by decide)
  | .rpe => rcc .pe
  | .pchl => pchl
  | .jpe a16 => jcc a16 .pe
  | .xchg => xchg
  | .cpe a16 => ccc a16 .pe
  | .undefED => fault _ _ rfl
  | .xri d8 => aluImm d8 .xra
  | .rst5 => rst 5 (by decide)
  | .rp => rcc .p
  | .popPSW => pop .psw
  | .jp a16 => jcc a16 .p
  | .di => di
  | .cp a16 => ccc a16 .p
  | .pushPSW => push .psw
  | .ori d8 => aluImm d8 .ora
  | .rst6 => rst 6 (by decide)
  | .rm => rcc .m
  | .sphl => sphl
  | .jm a16 => jcc a16 .m
  | .ei => ei
  | .cm a16 => ccc a16 .m
  | .undefFD => fault _ _ rfl
  | .cpi d8 => aluImm d8 .cmp
  | .rst7 => rst 7 (by decide)

/-! ## What `exec` does with each family -/

theorem exec_ofMov (dst src : Operand8) (s : State) (h : dst ≠ .mem ∨ src ≠ .mem) :
    exec (.ofMov dst src) s = .next (mov (opcodeOf (.ofMov dst src)) dst src s) := by
  rcases dst with (_ | _ | _ | _ | _ | _ | _) | _ <;> rcases src with (_ | _ | _ | _ | _ | _ | _) | _ <;>
    first | rfl | simp at h

theorem exec_ofMvi (v : Byte) (dst : Operand8) (s : State) :
    exec (.ofMvi v dst) s = .next (moveImm (opcodeOf (.ofMvi v dst)) dst v s) := by
  rcases dst with (_ | _ | _ | _ | _ | _ | _) | _ <;> rfl

theorem exec_ofInr (dst : Operand8) (s : State) :
    exec (.ofInr dst) s = .next (increment (opcodeOf (.ofInr dst)) dst s) := by
  rcases dst with (_ | _ | _ | _ | _ | _ | _) | _ <;> rfl

theorem exec_ofDcr (dst : Operand8) (s : State) :
    exec (.ofDcr dst) s = .next (decrement (opcodeOf (.ofDcr dst)) dst s) := by
  rcases dst with (_ | _ | _ | _ | _ | _ | _) | _ <;> rfl

theorem exec_ofAlu (o : AluOp) (src : Operand8) (s : State) :
    exec (.ofAlu o src) s = .next (aluA o (opcodeOf (.ofAlu o src)) (s.readOp8 src) s) := by
  cases o <;> rcases src with (_ | _ | _ | _ | _ | _ | _) | _ <;> rfl

theorem exec_ofAluImm (v : Byte) (o : AluOp) (s : State) :
    exec (.ofAluImm v o) s = .next (aluA o (opcodeOf (.ofAluImm v o)) v s) := by
  cases o <;> rfl

theorem exec_ofLxi (v : Word) (p : RegPair) (s : State) :
    exec (.ofLxi v p) s = .next (loadPairImm (opcodeOf (.ofLxi v p)) p v s) := by
  cases p <;> rfl

theorem exec_ofInx (p : RegPair) (s : State) :
    exec (.ofInx p) s = .next (incrementPair (opcodeOf (.ofInx p)) p s) := by
  cases p <;> rfl

theorem exec_ofDcx (p : RegPair) (s : State) :
    exec (.ofDcx p) s = .next (decrementPair (opcodeOf (.ofDcx p)) p s) := by
  cases p <;> rfl

theorem exec_ofDad (p : RegPair) (s : State) :
    exec (.ofDad p) s = .next (addPair (opcodeOf (.ofDad p)) p s) := by
  cases p <;> rfl

theorem exec_ofPush (p : StackPair) (s : State) :
    exec (.ofPush p) s = .next (push (opcodeOf (.ofPush p)) p s) := by
  cases p <;> rfl

theorem exec_ofPop (p : StackPair) (s : State) :
    exec (.ofPop p) s = .next (pop (opcodeOf (.ofPop p)) p s) := by
  cases p <;> rfl

theorem exec_ofJcc (v : Word) (cond : Cond) (s : State) :
    exec (.ofJcc v cond) s = .next (jumpIf (opcodeOf (.ofJcc v cond)) cond v s) := by
  cases cond <;> rfl

theorem exec_ofCcc (v : Word) (cond : Cond) (s : State) :
    exec (.ofCcc v cond) s = .next (callIf (opcodeOf (.ofCcc v cond)) cond v s) := by
  cases cond <;> rfl

theorem exec_ofRcc (cond : Cond) (s : State) :
    exec (.ofRcc cond) s = .next (returnIf (opcodeOf (.ofRcc cond)) cond s) := by
  cases cond <;> rfl

theorem exec_ofRst {n : Nat} (s : State) (h : n < 8) :
    exec (.ofRst n) s = .next (callTo (opcodeOf (.ofRst n)) (restartVector n) s) := by
  interval_cases n <;> rfl

/-- An instruction with a fault cause raises it, and does nothing else (R281). -/
theorem exec_of_faultOf {i : Instr} {cause : Fault} (h : faultOf i = some cause) (s : State) :
    exec i s = .next (s.raiseFault cause) := by
  cases i <;> simp only [faultOf, reduceCtorEq, Option.some.injEq] at h <;> subst h <;> rfl

/-! ## What `exec` does with each other instruction -/

theorem exec_nop (s : State) :
    exec .nop s = .next (s.advance 0x00#8) := rfl

theorem exec_staxB (s : State) :
    exec .staxB s = .next (storeA 0x02#8 (s.pair .bc) s) := rfl

theorem exec_rlc (s : State) :
    exec .rlc s = .next (rotate 0x07#8 (s.a <<< 1 ||| bitAt 0 s.a[7]) s.a[7] s) := rfl

theorem exec_ldaxB (s : State) :
    exec .ldaxB s = .next (loadA 0x0A#8 (s.pair .bc) s) := rfl

theorem exec_rrc (s : State) :
    exec .rrc s = .next (rotate 0x0F#8 (s.a >>> 1 ||| bitAt 7 s.a[0]) s.a[0] s) := rfl

theorem exec_staxD (s : State) :
    exec .staxD s = .next (storeA 0x12#8 (s.pair .de) s) := rfl

theorem exec_ral (s : State) :
    exec .ral s = .next (rotate 0x17#8 (s.a <<< 1 ||| bitAt 0 s.flags.cy) s.a[7] s) := rfl

theorem exec_ldaxD (s : State) :
    exec .ldaxD s = .next (loadA 0x1A#8 (s.pair .de) s) := rfl

theorem exec_rar (s : State) :
    exec .rar s = .next (rotate 0x1F#8 (s.a >>> 1 ||| bitAt 7 s.flags.cy) s.a[0] s) := rfl

theorem exec_shld (a16 : Word) (s : State) :
    exec (.shld a16) s = .next (storeHL 0x22#8 a16 s) := rfl

theorem exec_lhld (a16 : Word) (s : State) :
    exec (.lhld a16) s = .next (loadHL 0x2A#8 a16 s) := rfl

theorem exec_cma (s : State) :
    exec .cma s = .next ((s.setReg .a (~~~s.a)).advance 0x2F#8) := rfl

theorem exec_sta (a16 : Word) (s : State) :
    exec (.sta a16) s = .next (storeA 0x32#8 a16 s) := rfl

theorem exec_stc (s : State) :
    exec .stc s = .next ((s.setCY true).advance 0x37#8) := rfl

theorem exec_lda (a16 : Word) (s : State) :
    exec (.lda a16) s = .next (loadA 0x3A#8 a16 s) := rfl

theorem exec_cmc (s : State) :
    exec .cmc s = .next ((s.setCY (!s.flags.cy)).advance 0x3F#8) := rfl

theorem exec_hlt (s : State) :
    exec .hlt s = .next ((s.setRUN .halted).advance 0x76#8) := rfl

theorem exec_jmp (a16 : Word) (s : State) :
    exec (.jmp a16) s = .next (jump 0xC3#8 a16 s) := rfl

theorem exec_ret (s : State) :
    exec .ret s = .next (returnTo 0xC9#8 s) := rfl

theorem exec_call (a16 : Word) (s : State) :
    exec (.call a16) s = .next (callTo 0xCD#8 a16 s) := rfl

theorem exec_xthl (s : State) :
    exec .xthl s = .next (exchangeTopHL 0xE3#8 s) := rfl

theorem exec_pchl (s : State) :
    exec .pchl s = .next (jump 0xE9#8 s.hl s) := rfl

theorem exec_xchg (s : State) :
    exec .xchg s = .next (exchangeHLDE 0xEB#8 s) := rfl

theorem exec_di (s : State) :
    exec .di s = .next ((s.setINTE false).advance 0xF3#8) := rfl

theorem exec_sphl (s : State) :
    exec .sphl s = .next ((s.setSP s.hl).advance 0xF9#8) := rfl

theorem exec_ei (s : State) :
    exec .ei s = .next ((s.setINTE true).advance 0xFB#8) := rfl

/-! ## The length of each family -/

@[simp] theorem opcodeLength_ofMov (dst src : Operand8) :
    opcodeLength (opcodeOf (.ofMov dst src)) = 1 := by 
  rcases dst with (_ | _ | _ | _ | _ | _ | _) | _ <;> rcases src with (_ | _ | _ | _ | _ | _ | _) | _ <;> rfl
@[simp] theorem opcodeLength_ofMvi (v : Byte) (dst : Operand8) :
    opcodeLength (opcodeOf (.ofMvi v dst)) = 2 := by rcases dst with (_ | _ | _ | _ | _ | _ | _) | _ <;> rfl
@[simp] theorem opcodeLength_ofInr (dst : Operand8) :
    opcodeLength (opcodeOf (.ofInr dst)) = 1 := by rcases dst with (_ | _ | _ | _ | _ | _ | _) | _ <;> rfl
@[simp] theorem opcodeLength_ofDcr (dst : Operand8) :
    opcodeLength (opcodeOf (.ofDcr dst)) = 1 := by rcases dst with (_ | _ | _ | _ | _ | _ | _) | _ <;> rfl
@[simp] theorem opcodeLength_ofAlu (o : AluOp) (src : Operand8) :
    opcodeLength (opcodeOf (.ofAlu o src)) = 1 := by cases o <;> rcases src with (_ | _ | _ | _ | _ | _ | _) | _ <;> rfl
@[simp] theorem opcodeLength_ofAluImm (v : Byte) (o : AluOp) :
    opcodeLength (opcodeOf (.ofAluImm v o)) = 2 := by cases o <;> rfl
@[simp] theorem opcodeLength_ofLxi (v : Word) (p : RegPair) :
    opcodeLength (opcodeOf (.ofLxi v p)) = 3 := by cases p <;> rfl
@[simp] theorem opcodeLength_ofInx (p : RegPair) :
    opcodeLength (opcodeOf (.ofInx p)) = 1 := by cases p <;> rfl
@[simp] theorem opcodeLength_ofDcx (p : RegPair) :
    opcodeLength (opcodeOf (.ofDcx p)) = 1 := by cases p <;> rfl
@[simp] theorem opcodeLength_ofDad (p : RegPair) :
    opcodeLength (opcodeOf (.ofDad p)) = 1 := by cases p <;> rfl
@[simp] theorem opcodeLength_ofPush (p : StackPair) :
    opcodeLength (opcodeOf (.ofPush p)) = 1 := by cases p <;> rfl
@[simp] theorem opcodeLength_ofPop (p : StackPair) :
    opcodeLength (opcodeOf (.ofPop p)) = 1 := by cases p <;> rfl
@[simp] theorem opcodeLength_ofJcc (v : Word) (cond : Cond) :
    opcodeLength (opcodeOf (.ofJcc v cond)) = 3 := by cases cond <;> rfl
@[simp] theorem opcodeLength_ofCcc (v : Word) (cond : Cond) :
    opcodeLength (opcodeOf (.ofCcc v cond)) = 3 := by cases cond <;> rfl
@[simp] theorem opcodeLength_ofRcc (cond : Cond) :
    opcodeLength (opcodeOf (.ofRcc cond)) = 1 := by cases cond <;> rfl
theorem opcodeLength_ofRst {n : Nat} (h : n < 8) : opcodeLength (opcodeOf (.ofRst n)) = 1 := by interval_cases n <;> rfl

end Sys2Proof.Machine
end

