-- ==== Sys2Proof/Laws/Effects.lean ====
section
/-! SUPPORT. The tables of Machine/Effects.lean, family by family. -/

namespace Sys2Proof
open Sys2Proof.Machine

/-- The registers that an 8-bit destination covers. -/
def Operand8.regs : Operand8 → List Reg8
  | .reg r => [r]
  | .mem => []

/-- The addresses that an 8-bit destination covers. -/
def Operand8.stores (o : Operand8) (s : State) : List Word :=
  match o with
  | .reg _ => []
  | .mem => [s.hl]

/-- The registers that a pair covers. -/
def RegPair.regs : RegPair → List Reg8
  | .bc => [.b, .c]
  | .de => [.d, .e]
  | .hl => [.h, .l]
  | .sp => []

/-- The registers that POP writes. -/
def StackPair.regs : StackPair → List Reg8
  | .bc => [.b, .c]
  | .de => [.d, .e]
  | .hl => [.h, .l]
  | .psw => [.a]

end Sys2Proof

namespace Sys2Proof.Machine

/-! ### faultOf -/

@[simp] theorem faultOf_ofMov (dst src : Operand8) :
    faultOf (.ofMov dst src) = none := by
  rcases dst with (_ | _ | _ | _ | _ | _ | _) | _ <;> rcases src with (_ | _ | _ | _ | _ | _ | _) | _ <;> rfl

@[simp] theorem faultOf_ofMvi (v : Byte) (dst : Operand8) :
    faultOf (.ofMvi v dst) = none := by
  rcases dst with (_ | _ | _ | _ | _ | _ | _) | _ <;> rfl

@[simp] theorem faultOf_ofInr (dst : Operand8) :
    faultOf (.ofInr dst) = none := by
  rcases dst with (_ | _ | _ | _ | _ | _ | _) | _ <;> rfl

@[simp] theorem faultOf_ofDcr (dst : Operand8) :
    faultOf (.ofDcr dst) = none := by
  rcases dst with (_ | _ | _ | _ | _ | _ | _) | _ <;> rfl

@[simp] theorem faultOf_ofAlu (o : AluOp) (src : Operand8) :
    faultOf (.ofAlu o src) = none := by
  cases o <;> rcases src with (_ | _ | _ | _ | _ | _ | _) | _ <;> rfl

@[simp] theorem faultOf_ofAluImm (v : Byte) (o : AluOp) :
    faultOf (.ofAluImm v o) = none := by
  cases o <;> rfl

@[simp] theorem faultOf_ofLxi (v : Word) (p : RegPair) :
    faultOf (.ofLxi v p) = none := by
  cases p <;> rfl

@[simp] theorem faultOf_ofInx (p : RegPair) :
    faultOf (.ofInx p) = none := by
  cases p <;> rfl

@[simp] theorem faultOf_ofDcx (p : RegPair) :
    faultOf (.ofDcx p) = none := by
  cases p <;> rfl

@[simp] theorem faultOf_ofDad (p : RegPair) :
    faultOf (.ofDad p) = none := by
  cases p <;> rfl

@[simp] theorem faultOf_ofPush (p : StackPair) :
    faultOf (.ofPush p) = none := by
  cases p <;> rfl

@[simp] theorem faultOf_ofPop (p : StackPair) :
    faultOf (.ofPop p) = none := by
  cases p <;> rfl

@[simp] theorem faultOf_ofJcc (v : Word) (cond : Cond) :
    faultOf (.ofJcc v cond) = none := by
  cases cond <;> rfl

@[simp] theorem faultOf_ofCcc (v : Word) (cond : Cond) :
    faultOf (.ofCcc v cond) = none := by
  cases cond <;> rfl

@[simp] theorem faultOf_ofRcc (cond : Cond) :
    faultOf (.ofRcc cond) = none := by
  cases cond <;> rfl

theorem faultOf_ofRst {n : Nat} (h : n < 8) :
    faultOf (.ofRst n) = none := by
  interval_cases n <;> rfl

/-! ### condOf -/

@[simp] theorem condOf_ofMov (dst src : Operand8) :
    condOf (.ofMov dst src) = none := by
  rcases dst with (_ | _ | _ | _ | _ | _ | _) | _ <;> rcases src with (_ | _ | _ | _ | _ | _ | _) | _ <;> rfl

@[simp] theorem condOf_ofMvi (v : Byte) (dst : Operand8) :
    condOf (.ofMvi v dst) = none := by
  rcases dst with (_ | _ | _ | _ | _ | _ | _) | _ <;> rfl

@[simp] theorem condOf_ofInr (dst : Operand8) :
    condOf (.ofInr dst) = none := by
  rcases dst with (_ | _ | _ | _ | _ | _ | _) | _ <;> rfl

@[simp] theorem condOf_ofDcr (dst : Operand8) :
    condOf (.ofDcr dst) = none := by
  rcases dst with (_ | _ | _ | _ | _ | _ | _) | _ <;> rfl

@[simp] theorem condOf_ofAlu (o : AluOp) (src : Operand8) :
    condOf (.ofAlu o src) = none := by
  cases o <;> rcases src with (_ | _ | _ | _ | _ | _ | _) | _ <;> rfl

@[simp] theorem condOf_ofAluImm (v : Byte) (o : AluOp) :
    condOf (.ofAluImm v o) = none := by
  cases o <;> rfl

@[simp] theorem condOf_ofLxi (v : Word) (p : RegPair) :
    condOf (.ofLxi v p) = none := by
  cases p <;> rfl

@[simp] theorem condOf_ofInx (p : RegPair) :
    condOf (.ofInx p) = none := by
  cases p <;> rfl

@[simp] theorem condOf_ofDcx (p : RegPair) :
    condOf (.ofDcx p) = none := by
  cases p <;> rfl

@[simp] theorem condOf_ofDad (p : RegPair) :
    condOf (.ofDad p) = none := by
  cases p <;> rfl

@[simp] theorem condOf_ofPush (p : StackPair) :
    condOf (.ofPush p) = none := by
  cases p <;> rfl

@[simp] theorem condOf_ofPop (p : StackPair) :
    condOf (.ofPop p) = none := by
  cases p <;> rfl

@[simp] theorem condOf_ofJcc (v : Word) (cond : Cond) :
    condOf (.ofJcc v cond) = some cond := by
  cases cond <;> rfl

@[simp] theorem condOf_ofCcc (v : Word) (cond : Cond) :
    condOf (.ofCcc v cond) = some cond := by
  cases cond <;> rfl

@[simp] theorem condOf_ofRcc (cond : Cond) :
    condOf (.ofRcc cond) = some cond := by
  cases cond <;> rfl

theorem condOf_ofRst {n : Nat} (h : n < 8) :
    condOf (.ofRst n) = none := by
  interval_cases n <;> rfl

/-! ### destRegs -/

@[simp] theorem destRegs_ofMov (dst src : Operand8) :
    destRegs (.ofMov dst src) = dst.regs := by
  rcases dst with (_ | _ | _ | _ | _ | _ | _) | _ <;> rcases src with (_ | _ | _ | _ | _ | _ | _) | _ <;> rfl

@[simp] theorem destRegs_ofMvi (v : Byte) (dst : Operand8) :
    destRegs (.ofMvi v dst) = dst.regs := by
  rcases dst with (_ | _ | _ | _ | _ | _ | _) | _ <;> rfl

@[simp] theorem destRegs_ofInr (dst : Operand8) :
    destRegs (.ofInr dst) = dst.regs := by
  rcases dst with (_ | _ | _ | _ | _ | _ | _) | _ <;> rfl

@[simp] theorem destRegs_ofDcr (dst : Operand8) :
    destRegs (.ofDcr dst) = dst.regs := by
  rcases dst with (_ | _ | _ | _ | _ | _ | _) | _ <;> rfl

@[simp] theorem destRegs_ofAlu (o : AluOp) (src : Operand8) :
    destRegs (.ofAlu o src) = if o = .cmp then [] else [.a] := by
  cases o <;> rcases src with (_ | _ | _ | _ | _ | _ | _) | _ <;> rfl

@[simp] theorem destRegs_ofAluImm (v : Byte) (o : AluOp) :
    destRegs (.ofAluImm v o) = if o = .cmp then [] else [.a] := by
  cases o <;> rfl

@[simp] theorem destRegs_ofLxi (v : Word) (p : RegPair) :
    destRegs (.ofLxi v p) = p.regs := by
  cases p <;> rfl

@[simp] theorem destRegs_ofInx (p : RegPair) :
    destRegs (.ofInx p) = p.regs := by
  cases p <;> rfl

@[simp] theorem destRegs_ofDcx (p : RegPair) :
    destRegs (.ofDcx p) = p.regs := by
  cases p <;> rfl

@[simp] theorem destRegs_ofDad (p : RegPair) :
    destRegs (.ofDad p) = [.h, .l] := by
  cases p <;> rfl

@[simp] theorem destRegs_ofPush (p : StackPair) :
    destRegs (.ofPush p) = [] := by
  cases p <;> rfl

@[simp] theorem destRegs_ofPop (p : StackPair) :
    destRegs (.ofPop p) = p.regs := by
  cases p <;> rfl

@[simp] theorem destRegs_ofJcc (v : Word) (cond : Cond) :
    destRegs (.ofJcc v cond) = [] := by
  cases cond <;> rfl

@[simp] theorem destRegs_ofCcc (v : Word) (cond : Cond) :
    destRegs (.ofCcc v cond) = [] := by
  cases cond <;> rfl

@[simp] theorem destRegs_ofRcc (cond : Cond) :
    destRegs (.ofRcc cond) = [] := by
  cases cond <;> rfl

theorem destRegs_ofRst {n : Nat} (h : n < 8) :
    destRegs (.ofRst n) = [] := by
  interval_cases n <;> rfl

/-! ### storesAt -/

theorem storesAt_ofMov (dst src : Operand8) (s : State) (h : dst ≠ .mem ∨ src ≠ .mem) :
    storesAt (.ofMov dst src) s = dst.stores s := by
  rcases dst with (_ | _ | _ | _ | _ | _ | _) | _ <;> rcases src with (_ | _ | _ | _ | _ | _ | _) | _ <;>
    first | rfl | simp at h

@[simp] theorem storesAt_ofMvi (v : Byte) (dst : Operand8) (s : State) :
    storesAt (.ofMvi v dst) s = dst.stores s := by
  rcases dst with (_ | _ | _ | _ | _ | _ | _) | _ <;> rfl

@[simp] theorem storesAt_ofInr (dst : Operand8) (s : State) :
    storesAt (.ofInr dst) s = dst.stores s := by
  rcases dst with (_ | _ | _ | _ | _ | _ | _) | _ <;> rfl

@[simp] theorem storesAt_ofDcr (dst : Operand8) (s : State) :
    storesAt (.ofDcr dst) s = dst.stores s := by
  rcases dst with (_ | _ | _ | _ | _ | _ | _) | _ <;> rfl

@[simp] theorem storesAt_ofAlu (o : AluOp) (src : Operand8) (s : State) :
    storesAt (.ofAlu o src) s = [] := by
  cases o <;> rcases src with (_ | _ | _ | _ | _ | _ | _) | _ <;> rfl

@[simp] theorem storesAt_ofAluImm (v : Byte) (o : AluOp) (s : State) :
    storesAt (.ofAluImm v o) s = [] := by
  cases o <;> rfl

@[simp] theorem storesAt_ofLxi (v : Word) (p : RegPair) (s : State) :
    storesAt (.ofLxi v p) s = [] := by
  cases p <;> rfl

@[simp] theorem storesAt_ofInx (p : RegPair) (s : State) :
    storesAt (.ofInx p) s = [] := by
  cases p <;> rfl

@[simp] theorem storesAt_ofDcx (p : RegPair) (s : State) :
    storesAt (.ofDcx p) s = [] := by
  cases p <;> rfl

@[simp] theorem storesAt_ofDad (p : RegPair) (s : State) :
    storesAt (.ofDad p) s = [] := by
  cases p <;> rfl

@[simp] theorem storesAt_ofPush (p : StackPair) (s : State) :
    storesAt (.ofPush p) s = [s.sp - 1, s.sp - 2] := by
  cases p <;> rfl

@[simp] theorem storesAt_ofPop (p : StackPair) (s : State) :
    storesAt (.ofPop p) s = [] := by
  cases p <;> rfl

@[simp] theorem storesAt_ofJcc (v : Word) (cond : Cond) (s : State) :
    storesAt (.ofJcc v cond) s = [] := by
  cases cond <;> rfl

@[simp] theorem storesAt_ofCcc (v : Word) (cond : Cond) (s : State) :
    storesAt (.ofCcc v cond) s = if condHolds s.flags cond then [s.sp - 1, s.sp - 2] else [] := by
  cases cond <;> rfl

@[simp] theorem storesAt_ofRcc (cond : Cond) (s : State) :
    storesAt (.ofRcc cond) s = [] := by
  cases cond <;> rfl

theorem storesAt_ofRst {n : Nat} (s : State) (h : n < 8) :
    storesAt (.ofRst n) s = [s.sp - 1, s.sp - 2] := by
  interval_cases n <;> rfl

/-! ### writesSP -/

@[simp] theorem writesSP_ofMov (dst src : Operand8) (f : Flags) :
    writesSP (.ofMov dst src) f = false := by
  rcases dst with (_ | _ | _ | _ | _ | _ | _) | _ <;> rcases src with (_ | _ | _ | _ | _ | _ | _) | _ <;> rfl

@[simp] theorem writesSP_ofMvi (v : Byte) (dst : Operand8) (f : Flags) :
    writesSP (.ofMvi v dst) f = false := by
  rcases dst with (_ | _ | _ | _ | _ | _ | _) | _ <;> rfl

@[simp] theorem writesSP_ofInr (dst : Operand8) (f : Flags) :
    writesSP (.ofInr dst) f = false := by
  rcases dst with (_ | _ | _ | _ | _ | _ | _) | _ <;> rfl

@[simp] theorem writesSP_ofDcr (dst : Operand8) (f : Flags) :
    writesSP (.ofDcr dst) f = false := by
  rcases dst with (_ | _ | _ | _ | _ | _ | _) | _ <;> rfl

@[simp] theorem writesSP_ofAlu (o : AluOp) (src : Operand8) (f : Flags) :
    writesSP (.ofAlu o src) f = false := by
  cases o <;> rcases src with (_ | _ | _ | _ | _ | _ | _) | _ <;> rfl

@[simp] theorem writesSP_ofAluImm (v : Byte) (o : AluOp) (f : Flags) :
    writesSP (.ofAluImm v o) f = false := by
  cases o <;> rfl

@[simp] theorem writesSP_ofLxi (v : Word) (p : RegPair) (f : Flags) :
    writesSP (.ofLxi v p) f = (p == .sp) := by
  cases p <;> rfl

@[simp] theorem writesSP_ofInx (p : RegPair) (f : Flags) :
    writesSP (.ofInx p) f = (p == .sp) := by
  cases p <;> rfl

@[simp] theorem writesSP_ofDcx (p : RegPair) (f : Flags) :
    writesSP (.ofDcx p) f = (p == .sp) := by
  cases p <;> rfl

@[simp] theorem writesSP_ofDad (p : RegPair) (f : Flags) :
    writesSP (.ofDad p) f = false := by
  cases p <;> rfl

@[simp] theorem writesSP_ofPush (p : StackPair) (f : Flags) :
    writesSP (.ofPush p) f = true := by
  cases p <;> rfl

@[simp] theorem writesSP_ofPop (p : StackPair) (f : Flags) :
    writesSP (.ofPop p) f = true := by
  cases p <;> rfl

@[simp] theorem writesSP_ofJcc (v : Word) (cond : Cond) (f : Flags) :
    writesSP (.ofJcc v cond) f = false := by
  cases cond <;> rfl

@[simp] theorem writesSP_ofCcc (v : Word) (cond : Cond) (f : Flags) :
    writesSP (.ofCcc v cond) f = condHolds f cond := by
  cases cond <;> rfl

@[simp] theorem writesSP_ofRcc (cond : Cond) (f : Flags) :
    writesSP (.ofRcc cond) f = condHolds f cond := by
  cases cond <;> rfl

theorem writesSP_ofRst {n : Nat} (f : Flags) (h : n < 8) :
    writesSP (.ofRst n) f = true := by
  interval_cases n <;> rfl

/-! ### writesCY -/

@[simp] theorem writesCY_ofMov (dst src : Operand8) :
    writesCY (.ofMov dst src) = false := by
  rcases dst with (_ | _ | _ | _ | _ | _ | _) | _ <;> rcases src with (_ | _ | _ | _ | _ | _ | _) | _ <;> rfl

@[simp] theorem writesCY_ofMvi (v : Byte) (dst : Operand8) :
    writesCY (.ofMvi v dst) = false := by
  rcases dst with (_ | _ | _ | _ | _ | _ | _) | _ <;> rfl

@[simp] theorem writesCY_ofInr (dst : Operand8) :
    writesCY (.ofInr dst) = false := by
  rcases dst with (_ | _ | _ | _ | _ | _ | _) | _ <;> rfl

@[simp] theorem writesCY_ofDcr (dst : Operand8) :
    writesCY (.ofDcr dst) = false := by
  rcases dst with (_ | _ | _ | _ | _ | _ | _) | _ <;> rfl

@[simp] theorem writesCY_ofAlu (o : AluOp) (src : Operand8) :
    writesCY (.ofAlu o src) = true := by
  cases o <;> rcases src with (_ | _ | _ | _ | _ | _ | _) | _ <;> rfl

@[simp] theorem writesCY_ofAluImm (v : Byte) (o : AluOp) :
    writesCY (.ofAluImm v o) = true := by
  cases o <;> rfl

@[simp] theorem writesCY_ofLxi (v : Word) (p : RegPair) :
    writesCY (.ofLxi v p) = false := by
  cases p <;> rfl

@[simp] theorem writesCY_ofInx (p : RegPair) :
    writesCY (.ofInx p) = false := by
  cases p <;> rfl

@[simp] theorem writesCY_ofDcx (p : RegPair) :
    writesCY (.ofDcx p) = false := by
  cases p <;> rfl

@[simp] theorem writesCY_ofDad (p : RegPair) :
    writesCY (.ofDad p) = true := by
  cases p <;> rfl

@[simp] theorem writesCY_ofPush (p : StackPair) :
    writesCY (.ofPush p) = false := by
  cases p <;> rfl

@[simp] theorem writesCY_ofPop (p : StackPair) :
    writesCY (.ofPop p) = (p == .psw) := by
  cases p <;> rfl

@[simp] theorem writesCY_ofJcc (v : Word) (cond : Cond) :
    writesCY (.ofJcc v cond) = false := by
  cases cond <;> rfl

@[simp] theorem writesCY_ofCcc (v : Word) (cond : Cond) :
    writesCY (.ofCcc v cond) = false := by
  cases cond <;> rfl

@[simp] theorem writesCY_ofRcc (cond : Cond) :
    writesCY (.ofRcc cond) = false := by
  cases cond <;> rfl

theorem writesCY_ofRst {n : Nat} (h : n < 8) :
    writesCY (.ofRst n) = false := by
  interval_cases n <;> rfl

/-! ### writesACSZP -/

@[simp] theorem writesACSZP_ofMov (dst src : Operand8) :
    writesACSZP (.ofMov dst src) = false := by
  rcases dst with (_ | _ | _ | _ | _ | _ | _) | _ <;> rcases src with (_ | _ | _ | _ | _ | _ | _) | _ <;> rfl

@[simp] theorem writesACSZP_ofMvi (v : Byte) (dst : Operand8) :
    writesACSZP (.ofMvi v dst) = false := by
  rcases dst with (_ | _ | _ | _ | _ | _ | _) | _ <;> rfl

@[simp] theorem writesACSZP_ofInr (dst : Operand8) :
    writesACSZP (.ofInr dst) = true := by
  rcases dst with (_ | _ | _ | _ | _ | _ | _) | _ <;> rfl

@[simp] theorem writesACSZP_ofDcr (dst : Operand8) :
    writesACSZP (.ofDcr dst) = true := by
  rcases dst with (_ | _ | _ | _ | _ | _ | _) | _ <;> rfl

@[simp] theorem writesACSZP_ofAlu (o : AluOp) (src : Operand8) :
    writesACSZP (.ofAlu o src) = true := by
  cases o <;> rcases src with (_ | _ | _ | _ | _ | _ | _) | _ <;> rfl

@[simp] theorem writesACSZP_ofAluImm (v : Byte) (o : AluOp) :
    writesACSZP (.ofAluImm v o) = true := by
  cases o <;> rfl

@[simp] theorem writesACSZP_ofLxi (v : Word) (p : RegPair) :
    writesACSZP (.ofLxi v p) = false := by
  cases p <;> rfl

@[simp] theorem writesACSZP_ofInx (p : RegPair) :
    writesACSZP (.ofInx p) = false := by
  cases p <;> rfl

@[simp] theorem writesACSZP_ofDcx (p : RegPair) :
    writesACSZP (.ofDcx p) = false := by
  cases p <;> rfl

@[simp] theorem writesACSZP_ofDad (p : RegPair) :
    writesACSZP (.ofDad p) = false := by
  cases p <;> rfl

@[simp] theorem writesACSZP_ofPush (p : StackPair) :
    writesACSZP (.ofPush p) = false := by
  cases p <;> rfl

@[simp] theorem writesACSZP_ofPop (p : StackPair) :
    writesACSZP (.ofPop p) = (p == .psw) := by
  cases p <;> rfl

@[simp] theorem writesACSZP_ofJcc (v : Word) (cond : Cond) :
    writesACSZP (.ofJcc v cond) = false := by
  cases cond <;> rfl

@[simp] theorem writesACSZP_ofCcc (v : Word) (cond : Cond) :
    writesACSZP (.ofCcc v cond) = false := by
  cases cond <;> rfl

@[simp] theorem writesACSZP_ofRcc (cond : Cond) :
    writesACSZP (.ofRcc cond) = false := by
  cases cond <;> rfl

theorem writesACSZP_ofRst {n : Nat} (h : n < 8) :
    writesACSZP (.ofRst n) = false := by
  interval_cases n <;> rfl

/-! ### targetOf -/

@[simp] theorem targetOf_ofMov (dst src : Operand8) (s : State) :
    targetOf (.ofMov dst src) s = none := by
  rcases dst with (_ | _ | _ | _ | _ | _ | _) | _ <;> rcases src with (_ | _ | _ | _ | _ | _ | _) | _ <;> rfl

@[simp] theorem targetOf_ofMvi (v : Byte) (dst : Operand8) (s : State) :
    targetOf (.ofMvi v dst) s = none := by
  rcases dst with (_ | _ | _ | _ | _ | _ | _) | _ <;> rfl

@[simp] theorem targetOf_ofInr (dst : Operand8) (s : State) :
    targetOf (.ofInr dst) s = none := by
  rcases dst with (_ | _ | _ | _ | _ | _ | _) | _ <;> rfl

@[simp] theorem targetOf_ofDcr (dst : Operand8) (s : State) :
    targetOf (.ofDcr dst) s = none := by
  rcases dst with (_ | _ | _ | _ | _ | _ | _) | _ <;> rfl

@[simp] theorem targetOf_ofAlu (o : AluOp) (src : Operand8) (s : State) :
    targetOf (.ofAlu o src) s = none := by
  cases o <;> rcases src with (_ | _ | _ | _ | _ | _ | _) | _ <;> rfl

@[simp] theorem targetOf_ofAluImm (v : Byte) (o : AluOp) (s : State) :
    targetOf (.ofAluImm v o) s = none := by
  cases o <;> rfl

@[simp] theorem targetOf_ofLxi (v : Word) (p : RegPair) (s : State) :
    targetOf (.ofLxi v p) s = none := by
  cases p <;> rfl

@[simp] theorem targetOf_ofInx (p : RegPair) (s : State) :
    targetOf (.ofInx p) s = none := by
  cases p <;> rfl

@[simp] theorem targetOf_ofDcx (p : RegPair) (s : State) :
    targetOf (.ofDcx p) s = none := by
  cases p <;> rfl

@[simp] theorem targetOf_ofDad (p : RegPair) (s : State) :
    targetOf (.ofDad p) s = none := by
  cases p <;> rfl

@[simp] theorem targetOf_ofPush (p : StackPair) (s : State) :
    targetOf (.ofPush p) s = none := by
  cases p <;> rfl

@[simp] theorem targetOf_ofPop (p : StackPair) (s : State) :
    targetOf (.ofPop p) s = none := by
  cases p <;> rfl

@[simp] theorem targetOf_ofJcc (v : Word) (cond : Cond) (s : State) :
    targetOf (.ofJcc v cond) s = if condHolds s.flags cond then some v else none := by
  cases cond <;> rfl

@[simp] theorem targetOf_ofCcc (v : Word) (cond : Cond) (s : State) :
    targetOf (.ofCcc v cond) s = if condHolds s.flags cond then some v else none := by
  cases cond <;> rfl

@[simp] theorem targetOf_ofRcc (cond : Cond) (s : State) :
    targetOf (.ofRcc cond) s = if condHolds s.flags cond then some s.stackTop else none := by
  cases cond <;> rfl

theorem targetOf_ofRst {n : Nat} (s : State) (h : n < 8) :
    targetOf (.ofRst n) s = some (restartVector n) := by
  interval_cases n <;> rfl

/-! ### Faulting instructions -/

/-- An instruction with a fault cause has no other effect in the tables (R280, R281). -/
theorem no_effects_of_faultOf {i : Instr} {cause : Fault} (h : faultOf i = some cause) (s : State) :
    condOf i = none ∧ destRegs i = [] ∧ storesAt i s = [] ∧ writesSP i s.flags = false ∧ writesCY i = false ∧
      writesACSZP i = false ∧ targetOf i s = none := by
  cases i <;> first
    | exact ⟨rfl, rfl, rfl, rfl, rfl, rfl, rfl⟩
    | simp only [faultOf, reduceCtorEq] at h

end Sys2Proof.Machine
end

