-- ==== Sys2Proof/Laws/Flags.lean ====
section
/-! SUPPORT. The result and each flag of the ALU primitives (40_alu_flags), so that no proof unfolds a primitive. -/

namespace Sys2Proof.Machine

@[simp] theorem cy_zsp (v : Byte) (f : Flags) : (zsp v f).cy = f.cy := rfl
@[simp] theorem ac_zsp (v : Byte) (f : Flags) : (zsp v f).ac = f.ac := rfl
@[simp] theorem s_zsp (v : Byte) (f : Flags) : (zsp v f).s = v[7] := rfl
@[simp] theorem z_zsp (v : Byte) (f : Flags) : (zsp v f).z = (v == 0x00#8) := rfl
@[simp] theorem p_zsp (v : Byte) (f : Flags) : (zsp v f).p = parity v := rfl

/-- Addition (R95). -/
theorem add8_eq (a b : Byte) (cin : Bool) (f : Flags) :
    add8 a b cin f = (BitVec.ofNat 8 (a.toNat + b.toNat + cin.toNat),
      { cy := decide (a.toNat + b.toNat + cin.toNat > 255), ac := decide ((a &&& 0x0F#8).toNat + (b &&& 0x0F#8).toNat + cin.toNat > 0x0F)
        s := (BitVec.ofNat 8 (a.toNat + b.toNat + cin.toNat))[7], z := (BitVec.ofNat 8 (a.toNat + b.toNat + cin.toNat)) == 0x00#8, p := parity (BitVec.ofNat 8 (a.toNat + b.toNat + cin.toNat)) }) := rfl

/-- Subtraction (R96). -/
theorem sub8_eq (a b : Byte) (bin : Bool) (f : Flags) :
    sub8 a b bin f = (a - b - BitVec.ofNat 8 bin.toNat,
      { cy := decide (b.toNat + bin.toNat > a.toNat), ac := decide ((a &&& 0x0F#8).toNat + (~~~b &&& 0x0F#8).toNat + (1 - bin.toNat) > 0x0F)
        s := (a - b - BitVec.ofNat 8 bin.toNat)[7], z := (a - b - BitVec.ofNat 8 bin.toNat) == 0x00#8, p := parity (a - b - BitVec.ofNat 8 bin.toNat) }) := rfl

/-- Increment: CY stays (R98). -/
theorem inc8_eq (v : Byte) (f : Flags) :
    inc8 v f = (v + 1#8,
      { cy := f.cy, ac := (v &&& 0x0F#8) == 0x0F#8
        s := (v + 1#8)[7], z := (v + 1#8) == 0x00#8, p := parity (v + 1#8) }) := rfl

/-- Decrement: CY stays (R99). -/
theorem dec8_eq (v : Byte) (f : Flags) :
    dec8 v f = (v - 1#8,
      { cy := f.cy, ac := (v &&& 0x0F#8) != 0x00#8
        s := (v - 1#8)[7], z := (v - 1#8) == 0x00#8, p := parity (v - 1#8) }) := rfl

/-- AND (R100). -/
theorem and8_eq (a b : Byte) (f : Flags) :
    and8 a b f = (a &&& b,
      { cy := false, ac := false
        s := (a &&& b)[7], z := (a &&& b) == 0x00#8, p := parity (a &&& b) }) := rfl

/-- Exclusive OR (R100). -/
theorem xor8_eq (a b : Byte) (f : Flags) :
    xor8 a b f = (a ^^^ b,
      { cy := false, ac := false
        s := (a ^^^ b)[7], z := (a ^^^ b) == 0x00#8, p := parity (a ^^^ b) }) := rfl

/-- OR (R100). -/
theorem or8_eq (a b : Byte) (f : Flags) :
    or8 a b f = (a ||| b,
      { cy := false, ac := false
        s := (a ||| b)[7], z := (a ||| b) == 0x00#8, p := parity (a ||| b) }) := rfl

/-- 16-bit addition: CY alone (R102). -/
theorem add16_eq (x y : Word) (f : Flags) :
    add16 x y f = (BitVec.ofNat 16 (x.toNat + y.toNat), { f with cy := decide (x.toNat + y.toNat > 65535) }) := rfl

/-- AC of a subtraction, without the complement: the low nibble of `a` is not below that of `b` with the borrow (R96). -/
theorem sub8_ac (a b : Byte) (bin : Bool) (f : Flags) :
    (sub8 a b bin f).2.ac = decide (b.toNat % 16 + bin.toNat ≤ a.toNat % 16) := by
  have ha : (a &&& 0x0F#8).toNat = a.toNat % 16 := by
    simpa using Nat.and_two_pow_sub_one_eq_mod a.toNat 4
  have hb : (~~~b &&& 0x0F#8).toNat = (255 - b.toNat) % 16 := by
    simpa using Nat.and_two_pow_sub_one_eq_mod (255 - b.toNat) 4
  have := b.isLt
  rw [sub8_eq]
  simp only [ha, hb]
  cases bin <;> simp <;> omega

/-- AC of an addition in numbers: the low nibbles and the carry-in exceed 15 (R95). -/
theorem add8_ac (a b : Byte) (cin : Bool) (f : Flags) :
    (add8 a b cin f).2.ac = decide (15 < a.toNat % 16 + b.toNat % 16 + cin.toNat) := by
  have h (v : Byte) : (v &&& 0x0F#8).toNat = v.toNat % 16 := by
    simpa using Nat.and_two_pow_sub_one_eq_mod v.toNat 4
  simp [add8_eq, h]

end Sys2Proof.Machine
end

