-- ==== Sys2Proof/Laws/Memory.lean ====
section
/-! SUPPORT. What reading after writing gives (R41, R42), that every memory operation keeps the canonical form, and what
`Memory.ofFun` holds (R300). -/

namespace Sys2Proof.Machine

theorem Memory.mem_eraseCell (m : Memory) (n : Nat) (c : Host.Cell) : c ∈ m.eraseCell n ↔ c ∈ m ∧ c.1 ≠ n := by
  simp [Memory.eraseCell]

theorem Memory.lookup_eraseCell (m : Memory) (n k : Nat) :
    (m.eraseCell n).lookup k = if k = n then Config.memFill else m.lookup k := by
  induction m with
  | nil => simp [Memory.eraseCell, Memory.lookup]
  | cons c m ih =>
    by_cases hc : c.1 = n
    · rw [show Memory.eraseCell (c :: m) n = Memory.eraseCell m n by simp [Memory.eraseCell, hc], ih]
      split <;> simp_all [Memory.lookup, eq_comm]
    · rw [show Memory.eraseCell (c :: m) n = c :: Memory.eraseCell m n by simp [Memory.eraseCell, hc]]
      simp only [Memory.lookup, ih]
      split <;> simp_all

theorem Memory.lookup_insertCell (m : Memory) (n k : Nat) (v : Byte) (hn : ∀ c ∈ m, c.1 ≠ n) :
    (Memory.insertCell n v m).lookup k = if k = n then v else m.lookup k := by
  induction m with
  | nil => simp [Memory.insertCell, Memory.lookup, eq_comm]
  | cons c m ih =>
    have hc := hn c (by simp)
    have ih := ih fun c' h => hn c' (by simp [h])
    simp only [Memory.insertCell]
    split
    · simp [Memory.lookup, eq_comm]
    · simp only [Memory.lookup, ih]
      by_cases h : k = n
      · simp [h, hc]
      · simp [h]

/-- Reading after writing, at the address and everywhere else (R42); for every list, canonical or not. -/
theorem Memory.read_write (m : Memory) (a b : Word) (v : Byte) :
    (m.write a v).read b = if b = a then v else m.read b := by
  have e : (b = a) = (b.toNat = a.toNat) := propext BitVec.toNat_inj.symm
  simp only [Memory.read, Memory.write, e]
  split
  · rename_i h; rw [Memory.lookup_eraseCell, h]
  · rw [Memory.lookup_insertCell _ _ _ _ (by simp [Memory.mem_eraseCell]), Memory.lookup_eraseCell]
    by_cases h : b.toNat = a.toNat <;> simp [h]

theorem Memory.wf_nil : Memory.wf [] := by simp [Memory.wf]

theorem Memory.wf_eraseCell {m : Memory} (h : m.wf) (n : Nat) : (m.eraseCell n).wf :=
  ⟨h.1.filter _, fun c hc => h.2 c (Memory.mem_eraseCell m n c |>.1 hc).1⟩

theorem Memory.mem_insertCell (m : Memory) (n : Nat) (v : Byte) (c : Host.Cell) :
    c ∈ Memory.insertCell n v m ↔ c = (n, v) ∨ c ∈ m := by
  induction m with
  | nil => simp [Memory.insertCell]
  | cons d m ih =>
    simp only [Memory.insertCell]
    split
    · simp
    · simp only [List.mem_cons, ih]; tauto

theorem Memory.wf_insertCell {m : Memory} (h : m.wf) {n : Nat} {v : Byte} (hn : n < 65536)
    (hv : v ≠ Config.memFill) (hm : ∀ c ∈ m, c.1 ≠ n) : (Memory.insertCell n v m).wf := by
  refine ⟨?_, fun c hc => ?_⟩
  · obtain ⟨h, -⟩ := h
    induction m with
    | nil => simp [Memory.insertCell]
    | cons d m ih =>
      obtain ⟨hd, ht⟩ := List.pairwise_cons.1 h
      simp only [Memory.insertCell]
      split
      · rename_i hlt
        refine List.pairwise_cons.2 ⟨fun c hc => ?_, h⟩
        rcases List.mem_cons.1 hc with rfl | hc
        · exact hlt
        · exact Nat.lt_trans hlt (hd c hc)
      · have hdn := hm d (by simp)
        refine List.pairwise_cons.2 ⟨fun c hc => ?_, ih (fun c hc => hm c (by simp [hc])) ht⟩
        rcases (Memory.mem_insertCell m n v c).1 hc with rfl | hc
        · simp only; omega
        · exact hd c hc
  · rcases (Memory.mem_insertCell m n v c).1 hc with rfl | hc
    · exact ⟨hn, hv⟩
    · exact h.2 c hc

/-- Writing keeps the canonical form. -/
theorem Memory.wf_write {m : Memory} (h : m.wf) (a : Word) (v : Byte) : (m.write a v).wf := by
  simp only [Memory.write]
  split
  · exact Memory.wf_eraseCell h _
  · rename_i hv
    exact Memory.wf_insertCell (Memory.wf_eraseCell h _) a.isLt hv (by simp [Memory.mem_eraseCell])

theorem Memory.lookup_eq_fill {m : Memory} {n : Nat} (h : ∀ c ∈ m, c.1 ≠ n) : m.lookup n = Config.memFill := by
  induction m with
  | nil => rfl
  | cons c m ih => simp_all [Memory.lookup]

theorem Memory.lookup_of_mem {m : Memory} (h : m.wf) {n : Nat} {v : Byte} (hm : (n, v) ∈ m) : m.lookup n = v := by
  obtain ⟨h, -⟩ := h
  induction m with
  | nil => simp at hm
  | cons c m ih =>
    obtain ⟨hc, ht⟩ := List.pairwise_cons.1 h
    rcases List.mem_cons.1 hm with rfl | hm
    · simp [Memory.lookup]
    · have := hc _ hm
      simp only [Memory.lookup]
      rw [if_neg (by simp only at this; omega), ih hm ht]

theorem Memory.mem_ofFun (f : Word → Byte) (c : Host.Cell) :
    c ∈ Memory.ofFun f ↔ c.1 < 65536 ∧ c.2 = f (BitVec.ofNat 16 c.1) ∧ c.2 ≠ Config.memFill := by
  simp only [Memory.ofFun, List.mem_filterMap, List.mem_range]
  constructor
  · rintro ⟨n, hn, h⟩
    split at h
    · simp at h
    · simp only [Option.some.injEq] at h; subst h; exact ⟨hn, rfl, ‹_›⟩
  · rintro ⟨hn, h, h'⟩
    refine ⟨c.1, hn, ?_⟩
    rw [if_neg (by rwa [← h]), ← h]

/-- The memory with given contents is in canonical form. -/
theorem Memory.wf_ofFun (f : Word → Byte) : (Memory.ofFun f).wf := by
  refine ⟨?_, fun c hc => ?_⟩
  · simp only [Memory.ofFun]
    refine List.Pairwise.filterMap _ ?_ List.pairwise_lt_range
    intro a a' haa b hb b' hb'
    split at hb <;> split at hb' <;> simp_all
    subst hb hb'; exact haa
  · have := (Memory.mem_ofFun f c).1 hc; exact ⟨this.1, this.2.2⟩

/-- The memory with given contents reads as given. -/
theorem Memory.read_ofFun (f : Word → Byte) (a : Word) : (Memory.ofFun f).read a = f a := by
  by_cases h : f a = Config.memFill
  · rw [h]
    refine Memory.lookup_eq_fill fun c hc hca => ?_
    have := (Memory.mem_ofFun f c).1 hc
    rw [hca] at this
    simp_all
  · refine Memory.lookup_of_mem (Memory.wf_ofFun f) ((Memory.mem_ofFun f _).2 ⟨a.isLt, ?_, h⟩)
    simp

end Sys2Proof.Machine
end

