-- ==== Sys2Proof/Laws/State.lean ====
section
/-! SUPPORT. One lemma for each field and each update of the state. -/

namespace Sys2Proof.Machine

/-! ### write -/

@[simp] theorem State.a_write (s : State) (addr : Word) (v : Byte) : (s.write addr v).a = s.a := rfl
@[simp] theorem State.b_write (s : State) (addr : Word) (v : Byte) : (s.write addr v).b = s.b := rfl
@[simp] theorem State.c_write (s : State) (addr : Word) (v : Byte) : (s.write addr v).c = s.c := rfl
@[simp] theorem State.d_write (s : State) (addr : Word) (v : Byte) : (s.write addr v).d = s.d := rfl
@[simp] theorem State.e_write (s : State) (addr : Word) (v : Byte) : (s.write addr v).e = s.e := rfl
@[simp] theorem State.h_write (s : State) (addr : Word) (v : Byte) : (s.write addr v).h = s.h := rfl
@[simp] theorem State.l_write (s : State) (addr : Word) (v : Byte) : (s.write addr v).l = s.l := rfl
@[simp] theorem State.pc_write (s : State) (addr : Word) (v : Byte) : (s.write addr v).pc = s.pc := rfl
@[simp] theorem State.sp_write (s : State) (addr : Word) (v : Byte) : (s.write addr v).sp = s.sp := rfl
@[simp] theorem State.flags_write (s : State) (addr : Word) (v : Byte) : (s.write addr v).flags = s.flags := rfl
@[simp] theorem State.inte_write (s : State) (addr : Word) (v : Byte) : (s.write addr v).inte = s.inte := rfl
@[simp] theorem State.run_write (s : State) (addr : Word) (v : Byte) : (s.write addr v).run = s.run := rfl
@[simp] theorem State.cyc_write (s : State) (addr : Word) (v : Byte) : (s.write addr v).cyc = s.cyc := rfl
@[simp] theorem State.mem_write (s : State) (addr : Word) (v : Byte) : (s.write addr v).mem = s.mem.write addr v := rfl
@[simp] theorem State.reg_write (s : State) (addr : Word) (v : Byte) (r : Reg8) : (s.write addr v).reg r = s.reg r := by cases r <;> rfl

/-! ### setPC -/

@[simp] theorem State.a_setPC (s : State) (v : Word) : (s.setPC v).a = s.a := rfl
@[simp] theorem State.b_setPC (s : State) (v : Word) : (s.setPC v).b = s.b := rfl
@[simp] theorem State.c_setPC (s : State) (v : Word) : (s.setPC v).c = s.c := rfl
@[simp] theorem State.d_setPC (s : State) (v : Word) : (s.setPC v).d = s.d := rfl
@[simp] theorem State.e_setPC (s : State) (v : Word) : (s.setPC v).e = s.e := rfl
@[simp] theorem State.h_setPC (s : State) (v : Word) : (s.setPC v).h = s.h := rfl
@[simp] theorem State.l_setPC (s : State) (v : Word) : (s.setPC v).l = s.l := rfl
@[simp] theorem State.pc_setPC (s : State) (v : Word) : (s.setPC v).pc = v := rfl
@[simp] theorem State.sp_setPC (s : State) (v : Word) : (s.setPC v).sp = s.sp := rfl
@[simp] theorem State.flags_setPC (s : State) (v : Word) : (s.setPC v).flags = s.flags := rfl
@[simp] theorem State.inte_setPC (s : State) (v : Word) : (s.setPC v).inte = s.inte := rfl
@[simp] theorem State.run_setPC (s : State) (v : Word) : (s.setPC v).run = s.run := rfl
@[simp] theorem State.cyc_setPC (s : State) (v : Word) : (s.setPC v).cyc = s.cyc := rfl
@[simp] theorem State.mem_setPC (s : State) (v : Word) : (s.setPC v).mem = s.mem := rfl
@[simp] theorem State.reg_setPC (s : State) (v : Word) (r : Reg8) : (s.setPC v).reg r = s.reg r := by cases r <;> rfl

/-! ### setSP -/

@[simp] theorem State.a_setSP (s : State) (v : Word) : (s.setSP v).a = s.a := rfl
@[simp] theorem State.b_setSP (s : State) (v : Word) : (s.setSP v).b = s.b := rfl
@[simp] theorem State.c_setSP (s : State) (v : Word) : (s.setSP v).c = s.c := rfl
@[simp] theorem State.d_setSP (s : State) (v : Word) : (s.setSP v).d = s.d := rfl
@[simp] theorem State.e_setSP (s : State) (v : Word) : (s.setSP v).e = s.e := rfl
@[simp] theorem State.h_setSP (s : State) (v : Word) : (s.setSP v).h = s.h := rfl
@[simp] theorem State.l_setSP (s : State) (v : Word) : (s.setSP v).l = s.l := rfl
@[simp] theorem State.pc_setSP (s : State) (v : Word) : (s.setSP v).pc = s.pc := rfl
@[simp] theorem State.sp_setSP (s : State) (v : Word) : (s.setSP v).sp = v := rfl
@[simp] theorem State.flags_setSP (s : State) (v : Word) : (s.setSP v).flags = s.flags := rfl
@[simp] theorem State.inte_setSP (s : State) (v : Word) : (s.setSP v).inte = s.inte := rfl
@[simp] theorem State.run_setSP (s : State) (v : Word) : (s.setSP v).run = s.run := rfl
@[simp] theorem State.cyc_setSP (s : State) (v : Word) : (s.setSP v).cyc = s.cyc := rfl
@[simp] theorem State.mem_setSP (s : State) (v : Word) : (s.setSP v).mem = s.mem := rfl
@[simp] theorem State.reg_setSP (s : State) (v : Word) (r : Reg8) : (s.setSP v).reg r = s.reg r := by cases r <;> rfl

/-! ### setFlags -/

@[simp] theorem State.a_setFlags (s : State) (f : Flags) : (s.setFlags f).a = s.a := rfl
@[simp] theorem State.b_setFlags (s : State) (f : Flags) : (s.setFlags f).b = s.b := rfl
@[simp] theorem State.c_setFlags (s : State) (f : Flags) : (s.setFlags f).c = s.c := rfl
@[simp] theorem State.d_setFlags (s : State) (f : Flags) : (s.setFlags f).d = s.d := rfl
@[simp] theorem State.e_setFlags (s : State) (f : Flags) : (s.setFlags f).e = s.e := rfl
@[simp] theorem State.h_setFlags (s : State) (f : Flags) : (s.setFlags f).h = s.h := rfl
@[simp] theorem State.l_setFlags (s : State) (f : Flags) : (s.setFlags f).l = s.l := rfl
@[simp] theorem State.pc_setFlags (s : State) (f : Flags) : (s.setFlags f).pc = s.pc := rfl
@[simp] theorem State.sp_setFlags (s : State) (f : Flags) : (s.setFlags f).sp = s.sp := rfl
@[simp] theorem State.flags_setFlags (s : State) (f : Flags) : (s.setFlags f).flags = f := rfl
@[simp] theorem State.inte_setFlags (s : State) (f : Flags) : (s.setFlags f).inte = s.inte := rfl
@[simp] theorem State.run_setFlags (s : State) (f : Flags) : (s.setFlags f).run = s.run := rfl
@[simp] theorem State.cyc_setFlags (s : State) (f : Flags) : (s.setFlags f).cyc = s.cyc := rfl
@[simp] theorem State.mem_setFlags (s : State) (f : Flags) : (s.setFlags f).mem = s.mem := rfl
@[simp] theorem State.reg_setFlags (s : State) (f : Flags) (r : Reg8) : (s.setFlags f).reg r = s.reg r := by cases r <;> rfl

/-! ### setCY -/

@[simp] theorem State.a_setCY (s : State) (v : Bool) : (s.setCY v).a = s.a := rfl
@[simp] theorem State.b_setCY (s : State) (v : Bool) : (s.setCY v).b = s.b := rfl
@[simp] theorem State.c_setCY (s : State) (v : Bool) : (s.setCY v).c = s.c := rfl
@[simp] theorem State.d_setCY (s : State) (v : Bool) : (s.setCY v).d = s.d := rfl
@[simp] theorem State.e_setCY (s : State) (v : Bool) : (s.setCY v).e = s.e := rfl
@[simp] theorem State.h_setCY (s : State) (v : Bool) : (s.setCY v).h = s.h := rfl
@[simp] theorem State.l_setCY (s : State) (v : Bool) : (s.setCY v).l = s.l := rfl
@[simp] theorem State.pc_setCY (s : State) (v : Bool) : (s.setCY v).pc = s.pc := rfl
@[simp] theorem State.sp_setCY (s : State) (v : Bool) : (s.setCY v).sp = s.sp := rfl
@[simp] theorem State.flags_setCY (s : State) (v : Bool) : (s.setCY v).flags = { s.flags with cy := v } := rfl
@[simp] theorem State.inte_setCY (s : State) (v : Bool) : (s.setCY v).inte = s.inte := rfl
@[simp] theorem State.run_setCY (s : State) (v : Bool) : (s.setCY v).run = s.run := rfl
@[simp] theorem State.cyc_setCY (s : State) (v : Bool) : (s.setCY v).cyc = s.cyc := rfl
@[simp] theorem State.mem_setCY (s : State) (v : Bool) : (s.setCY v).mem = s.mem := rfl
@[simp] theorem State.reg_setCY (s : State) (v : Bool) (r : Reg8) : (s.setCY v).reg r = s.reg r := by cases r <;> rfl

/-! ### setINTE -/

@[simp] theorem State.a_setINTE (s : State) (v : Bool) : (s.setINTE v).a = s.a := rfl
@[simp] theorem State.b_setINTE (s : State) (v : Bool) : (s.setINTE v).b = s.b := rfl
@[simp] theorem State.c_setINTE (s : State) (v : Bool) : (s.setINTE v).c = s.c := rfl
@[simp] theorem State.d_setINTE (s : State) (v : Bool) : (s.setINTE v).d = s.d := rfl
@[simp] theorem State.e_setINTE (s : State) (v : Bool) : (s.setINTE v).e = s.e := rfl
@[simp] theorem State.h_setINTE (s : State) (v : Bool) : (s.setINTE v).h = s.h := rfl
@[simp] theorem State.l_setINTE (s : State) (v : Bool) : (s.setINTE v).l = s.l := rfl
@[simp] theorem State.pc_setINTE (s : State) (v : Bool) : (s.setINTE v).pc = s.pc := rfl
@[simp] theorem State.sp_setINTE (s : State) (v : Bool) : (s.setINTE v).sp = s.sp := rfl
@[simp] theorem State.flags_setINTE (s : State) (v : Bool) : (s.setINTE v).flags = s.flags := rfl
@[simp] theorem State.inte_setINTE (s : State) (v : Bool) : (s.setINTE v).inte = v := rfl
@[simp] theorem State.run_setINTE (s : State) (v : Bool) : (s.setINTE v).run = s.run := rfl
@[simp] theorem State.cyc_setINTE (s : State) (v : Bool) : (s.setINTE v).cyc = s.cyc := rfl
@[simp] theorem State.mem_setINTE (s : State) (v : Bool) : (s.setINTE v).mem = s.mem := rfl
@[simp] theorem State.reg_setINTE (s : State) (v : Bool) (r : Reg8) : (s.setINTE v).reg r = s.reg r := by cases r <;> rfl

/-! ### setRUN -/

@[simp] theorem State.a_setRUN (s : State) (v : RunStatus) : (s.setRUN v).a = s.a := rfl
@[simp] theorem State.b_setRUN (s : State) (v : RunStatus) : (s.setRUN v).b = s.b := rfl
@[simp] theorem State.c_setRUN (s : State) (v : RunStatus) : (s.setRUN v).c = s.c := rfl
@[simp] theorem State.d_setRUN (s : State) (v : RunStatus) : (s.setRUN v).d = s.d := rfl
@[simp] theorem State.e_setRUN (s : State) (v : RunStatus) : (s.setRUN v).e = s.e := rfl
@[simp] theorem State.h_setRUN (s : State) (v : RunStatus) : (s.setRUN v).h = s.h := rfl
@[simp] theorem State.l_setRUN (s : State) (v : RunStatus) : (s.setRUN v).l = s.l := rfl
@[simp] theorem State.pc_setRUN (s : State) (v : RunStatus) : (s.setRUN v).pc = s.pc := rfl
@[simp] theorem State.sp_setRUN (s : State) (v : RunStatus) : (s.setRUN v).sp = s.sp := rfl
@[simp] theorem State.flags_setRUN (s : State) (v : RunStatus) : (s.setRUN v).flags = s.flags := rfl
@[simp] theorem State.inte_setRUN (s : State) (v : RunStatus) : (s.setRUN v).inte = s.inte := rfl
@[simp] theorem State.run_setRUN (s : State) (v : RunStatus) : (s.setRUN v).run = v := rfl
@[simp] theorem State.cyc_setRUN (s : State) (v : RunStatus) : (s.setRUN v).cyc = s.cyc := rfl
@[simp] theorem State.mem_setRUN (s : State) (v : RunStatus) : (s.setRUN v).mem = s.mem := rfl
@[simp] theorem State.reg_setRUN (s : State) (v : RunStatus) (r : Reg8) : (s.setRUN v).reg r = s.reg r := by cases r <;> rfl

/-! ### charge -/

@[simp] theorem State.a_charge (s : State) (op : Byte) (t : Bool) : (s.charge op t).a = s.a := rfl
@[simp] theorem State.b_charge (s : State) (op : Byte) (t : Bool) : (s.charge op t).b = s.b := rfl
@[simp] theorem State.c_charge (s : State) (op : Byte) (t : Bool) : (s.charge op t).c = s.c := rfl
@[simp] theorem State.d_charge (s : State) (op : Byte) (t : Bool) : (s.charge op t).d = s.d := rfl
@[simp] theorem State.e_charge (s : State) (op : Byte) (t : Bool) : (s.charge op t).e = s.e := rfl
@[simp] theorem State.h_charge (s : State) (op : Byte) (t : Bool) : (s.charge op t).h = s.h := rfl
@[simp] theorem State.l_charge (s : State) (op : Byte) (t : Bool) : (s.charge op t).l = s.l := rfl
@[simp] theorem State.pc_charge (s : State) (op : Byte) (t : Bool) : (s.charge op t).pc = s.pc := rfl
@[simp] theorem State.sp_charge (s : State) (op : Byte) (t : Bool) : (s.charge op t).sp = s.sp := rfl
@[simp] theorem State.flags_charge (s : State) (op : Byte) (t : Bool) : (s.charge op t).flags = s.flags := rfl
@[simp] theorem State.inte_charge (s : State) (op : Byte) (t : Bool) : (s.charge op t).inte = s.inte := rfl
@[simp] theorem State.run_charge (s : State) (op : Byte) (t : Bool) : (s.charge op t).run = s.run := rfl
@[simp] theorem State.cyc_charge (s : State) (op : Byte) (t : Bool) : (s.charge op t).cyc = s.cyc + cost op t := rfl
@[simp] theorem State.mem_charge (s : State) (op : Byte) (t : Bool) : (s.charge op t).mem = s.mem := rfl
@[simp] theorem State.reg_charge (s : State) (op : Byte) (t : Bool) (r : Reg8) : (s.charge op t).reg r = s.reg r := by cases r <;> rfl

/-! ### setReg -/

@[simp] theorem State.pc_setReg (s : State) (r : Reg8) (v : Byte) : (s.setReg r v).pc = s.pc := by cases r <;> rfl
@[simp] theorem State.sp_setReg (s : State) (r : Reg8) (v : Byte) : (s.setReg r v).sp = s.sp := by cases r <;> rfl
@[simp] theorem State.flags_setReg (s : State) (r : Reg8) (v : Byte) : (s.setReg r v).flags = s.flags := by cases r <;> rfl
@[simp] theorem State.inte_setReg (s : State) (r : Reg8) (v : Byte) : (s.setReg r v).inte = s.inte := by cases r <;> rfl
@[simp] theorem State.run_setReg (s : State) (r : Reg8) (v : Byte) : (s.setReg r v).run = s.run := by cases r <;> rfl
@[simp] theorem State.cyc_setReg (s : State) (r : Reg8) (v : Byte) : (s.setReg r v).cyc = s.cyc := by cases r <;> rfl
@[simp] theorem State.mem_setReg (s : State) (r : Reg8) (v : Byte) : (s.setReg r v).mem = s.mem := by cases r <;> rfl

/-- Writing one register reads back, and changes no other (R10). -/
@[simp] theorem State.reg_setReg (s : State) (r r' : Reg8) (v : Byte) :
    (s.setReg r v).reg r' = if r' = r then v else s.reg r' := by cases r <;> cases r' <;> rfl

/-! ### Reading memory through an update that leaves memory alone -/

@[simp] theorem State.read_setPC (s : State) (v : Word) (x : Word) : (s.setPC v).read x = s.read x := rfl
@[simp] theorem State.read_setSP (s : State) (v : Word) (x : Word) : (s.setSP v).read x = s.read x := rfl
@[simp] theorem State.read_setFlags (s : State) (f : Flags) (x : Word) : (s.setFlags f).read x = s.read x := rfl
@[simp] theorem State.read_setCY (s : State) (v : Bool) (x : Word) : (s.setCY v).read x = s.read x := rfl
@[simp] theorem State.read_setINTE (s : State) (v : Bool) (x : Word) : (s.setINTE v).read x = s.read x := rfl
@[simp] theorem State.read_setRUN (s : State) (v : RunStatus) (x : Word) : (s.setRUN v).read x = s.read x := rfl
@[simp] theorem State.read_charge (s : State) (op : Byte) (t : Bool) (x : Word) : (s.charge op t).read x = s.read x := rfl
@[simp] theorem State.read_setReg (s : State) (r : Reg8) (v : Byte) (x : Word) : (s.setReg r v).read x = s.read x := by
  cases r <;> rfl

end Sys2Proof.Machine
end

