-- ==== Sys2Proof/Laws/Ops.lean ====
section
/-! SUPPORT. What each shared operation over memory, registers and the stack does: one lemma for each field, what memory
reads afterwards, and the canonical form. -/

namespace Sys2Proof.Machine

/-! ### write16 -/

@[simp] theorem State.a_write16 (s : State) (addr v : Word) : (s.write16 addr v).a = s.a := rfl
@[simp] theorem State.b_write16 (s : State) (addr v : Word) : (s.write16 addr v).b = s.b := rfl
@[simp] theorem State.c_write16 (s : State) (addr v : Word) : (s.write16 addr v).c = s.c := rfl
@[simp] theorem State.d_write16 (s : State) (addr v : Word) : (s.write16 addr v).d = s.d := rfl
@[simp] theorem State.e_write16 (s : State) (addr v : Word) : (s.write16 addr v).e = s.e := rfl
@[simp] theorem State.h_write16 (s : State) (addr v : Word) : (s.write16 addr v).h = s.h := rfl
@[simp] theorem State.l_write16 (s : State) (addr v : Word) : (s.write16 addr v).l = s.l := rfl
@[simp] theorem State.pc_write16 (s : State) (addr v : Word) : (s.write16 addr v).pc = s.pc := rfl
@[simp] theorem State.sp_write16 (s : State) (addr v : Word) : (s.write16 addr v).sp = s.sp := rfl
@[simp] theorem State.flags_write16 (s : State) (addr v : Word) : (s.write16 addr v).flags = s.flags := rfl
@[simp] theorem State.inte_write16 (s : State) (addr v : Word) : (s.write16 addr v).inte = s.inte := rfl
@[simp] theorem State.run_write16 (s : State) (addr v : Word) : (s.write16 addr v).run = s.run := rfl
@[simp] theorem State.cyc_write16 (s : State) (addr v : Word) : (s.write16 addr v).cyc = s.cyc := rfl
@[simp] theorem State.mem_write16 (s : State) (addr v : Word) : (s.write16 addr v).mem = (s.mem.write addr (loByte v)).write (addr + 1) (hiByte v) := rfl
@[simp] theorem State.reg_write16 (s : State) (addr v : Word) (r : Reg8) : (s.write16 addr v).reg r = s.reg r := by cases r <;> rfl

/-! ### push16 -/

@[simp] theorem State.a_push16 (s : State) (v : Word) : (s.push16 v).a = s.a := rfl
@[simp] theorem State.b_push16 (s : State) (v : Word) : (s.push16 v).b = s.b := rfl
@[simp] theorem State.c_push16 (s : State) (v : Word) : (s.push16 v).c = s.c := rfl
@[simp] theorem State.d_push16 (s : State) (v : Word) : (s.push16 v).d = s.d := rfl
@[simp] theorem State.e_push16 (s : State) (v : Word) : (s.push16 v).e = s.e := rfl
@[simp] theorem State.h_push16 (s : State) (v : Word) : (s.push16 v).h = s.h := rfl
@[simp] theorem State.l_push16 (s : State) (v : Word) : (s.push16 v).l = s.l := rfl
@[simp] theorem State.pc_push16 (s : State) (v : Word) : (s.push16 v).pc = s.pc := rfl
@[simp] theorem State.sp_push16 (s : State) (v : Word) : (s.push16 v).sp = s.sp - 2 := rfl
@[simp] theorem State.flags_push16 (s : State) (v : Word) : (s.push16 v).flags = s.flags := rfl
@[simp] theorem State.inte_push16 (s : State) (v : Word) : (s.push16 v).inte = s.inte := rfl
@[simp] theorem State.run_push16 (s : State) (v : Word) : (s.push16 v).run = s.run := rfl
@[simp] theorem State.cyc_push16 (s : State) (v : Word) : (s.push16 v).cyc = s.cyc := rfl
@[simp] theorem State.mem_push16 (s : State) (v : Word) : (s.push16 v).mem = (s.mem.write (s.sp - 1) (hiByte v)).write (s.sp - 2) (loByte v) := rfl
@[simp] theorem State.reg_push16 (s : State) (v : Word) (r : Reg8) : (s.push16 v).reg r = s.reg r := by cases r <;> rfl

/-! ### dropTop -/

@[simp] theorem State.a_dropTop (s : State) : (s.dropTop).a = s.a := rfl
@[simp] theorem State.b_dropTop (s : State) : (s.dropTop).b = s.b := rfl
@[simp] theorem State.c_dropTop (s : State) : (s.dropTop).c = s.c := rfl
@[simp] theorem State.d_dropTop (s : State) : (s.dropTop).d = s.d := rfl
@[simp] theorem State.e_dropTop (s : State) : (s.dropTop).e = s.e := rfl
@[simp] theorem State.h_dropTop (s : State) : (s.dropTop).h = s.h := rfl
@[simp] theorem State.l_dropTop (s : State) : (s.dropTop).l = s.l := rfl
@[simp] theorem State.pc_dropTop (s : State) : (s.dropTop).pc = s.pc := rfl
@[simp] theorem State.sp_dropTop (s : State) : (s.dropTop).sp = s.sp + 2 := rfl
@[simp] theorem State.flags_dropTop (s : State) : (s.dropTop).flags = s.flags := rfl
@[simp] theorem State.inte_dropTop (s : State) : (s.dropTop).inte = s.inte := rfl
@[simp] theorem State.run_dropTop (s : State) : (s.dropTop).run = s.run := rfl
@[simp] theorem State.cyc_dropTop (s : State) : (s.dropTop).cyc = s.cyc := rfl
@[simp] theorem State.mem_dropTop (s : State) : (s.dropTop).mem = s.mem := rfl
@[simp] theorem State.reg_dropTop (s : State) (r : Reg8) : (s.dropTop).reg r = s.reg r := by cases r <;> rfl

/-! ### raiseFault -/

@[simp] theorem State.a_raiseFault (s : State) (cause : Fault) : (s.raiseFault cause).a = s.a := rfl
@[simp] theorem State.b_raiseFault (s : State) (cause : Fault) : (s.raiseFault cause).b = s.b := rfl
@[simp] theorem State.c_raiseFault (s : State) (cause : Fault) : (s.raiseFault cause).c = s.c := rfl
@[simp] theorem State.d_raiseFault (s : State) (cause : Fault) : (s.raiseFault cause).d = s.d := rfl
@[simp] theorem State.e_raiseFault (s : State) (cause : Fault) : (s.raiseFault cause).e = s.e := rfl
@[simp] theorem State.h_raiseFault (s : State) (cause : Fault) : (s.raiseFault cause).h = s.h := rfl
@[simp] theorem State.l_raiseFault (s : State) (cause : Fault) : (s.raiseFault cause).l = s.l := rfl
@[simp] theorem State.pc_raiseFault (s : State) (cause : Fault) : (s.raiseFault cause).pc = s.pc := rfl
@[simp] theorem State.sp_raiseFault (s : State) (cause : Fault) : (s.raiseFault cause).sp = s.sp := rfl
@[simp] theorem State.flags_raiseFault (s : State) (cause : Fault) : (s.raiseFault cause).flags = s.flags := rfl
@[simp] theorem State.inte_raiseFault (s : State) (cause : Fault) : (s.raiseFault cause).inte = s.inte := rfl
@[simp] theorem State.run_raiseFault (s : State) (cause : Fault) : (s.raiseFault cause).run = .faulted cause := rfl
@[simp] theorem State.cyc_raiseFault (s : State) (cause : Fault) : (s.raiseFault cause).cyc = s.cyc := rfl
@[simp] theorem State.mem_raiseFault (s : State) (cause : Fault) : (s.raiseFault cause).mem = s.mem := rfl
@[simp] theorem State.reg_raiseFault (s : State) (cause : Fault) (r : Reg8) : (s.raiseFault cause).reg r = s.reg r := by cases r <;> rfl

/-! ### advance -/

@[simp] theorem State.a_advance (s : State) (op : Byte) : (s.advance op).a = s.a := rfl
@[simp] theorem State.b_advance (s : State) (op : Byte) : (s.advance op).b = s.b := rfl
@[simp] theorem State.c_advance (s : State) (op : Byte) : (s.advance op).c = s.c := rfl
@[simp] theorem State.d_advance (s : State) (op : Byte) : (s.advance op).d = s.d := rfl
@[simp] theorem State.e_advance (s : State) (op : Byte) : (s.advance op).e = s.e := rfl
@[simp] theorem State.h_advance (s : State) (op : Byte) : (s.advance op).h = s.h := rfl
@[simp] theorem State.l_advance (s : State) (op : Byte) : (s.advance op).l = s.l := rfl
@[simp] theorem State.pc_advance (s : State) (op : Byte) : (s.advance op).pc = s.next op := rfl
@[simp] theorem State.sp_advance (s : State) (op : Byte) : (s.advance op).sp = s.sp := rfl
@[simp] theorem State.flags_advance (s : State) (op : Byte) : (s.advance op).flags = s.flags := rfl
@[simp] theorem State.inte_advance (s : State) (op : Byte) : (s.advance op).inte = s.inte := rfl
@[simp] theorem State.run_advance (s : State) (op : Byte) : (s.advance op).run = s.run := rfl
@[simp] theorem State.cyc_advance (s : State) (op : Byte) : (s.advance op).cyc = s.cyc + cost op false := rfl
@[simp] theorem State.mem_advance (s : State) (op : Byte) : (s.advance op).mem = s.mem := rfl
@[simp] theorem State.reg_advance (s : State) (op : Byte) (r : Reg8) : (s.advance op).reg r = s.reg r := by cases r <;> rfl

/-! ### setPair, writeOp8, setStackPair -/

@[simp] theorem State.pc_setPair (s : State) (p : RegPair) (v : Word) : (s.setPair p v).pc = s.pc := by cases p <;> rfl
@[simp] theorem State.flags_setPair (s : State) (p : RegPair) (v : Word) : (s.setPair p v).flags = s.flags := by cases p <;> rfl
@[simp] theorem State.inte_setPair (s : State) (p : RegPair) (v : Word) : (s.setPair p v).inte = s.inte := by cases p <;> rfl
@[simp] theorem State.run_setPair (s : State) (p : RegPair) (v : Word) : (s.setPair p v).run = s.run := by cases p <;> rfl
@[simp] theorem State.cyc_setPair (s : State) (p : RegPair) (v : Word) : (s.setPair p v).cyc = s.cyc := by cases p <;> rfl
@[simp] theorem State.mem_setPair (s : State) (p : RegPair) (v : Word) : (s.setPair p v).mem = s.mem := by cases p <;> rfl
@[simp] theorem State.pc_writeOp8 (s : State) (o : Operand8) (v : Byte) : (s.writeOp8 o v).pc = s.pc := by
  cases o with
  | reg r => exact State.pc_setReg s r v
  | mem => rfl
@[simp] theorem State.sp_writeOp8 (s : State) (o : Operand8) (v : Byte) : (s.writeOp8 o v).sp = s.sp := by
  cases o with
  | reg r => exact State.sp_setReg s r v
  | mem => rfl
@[simp] theorem State.flags_writeOp8 (s : State) (o : Operand8) (v : Byte) : (s.writeOp8 o v).flags = s.flags := by
  cases o with
  | reg r => exact State.flags_setReg s r v
  | mem => rfl
@[simp] theorem State.inte_writeOp8 (s : State) (o : Operand8) (v : Byte) : (s.writeOp8 o v).inte = s.inte := by
  cases o with
  | reg r => exact State.inte_setReg s r v
  | mem => rfl
@[simp] theorem State.run_writeOp8 (s : State) (o : Operand8) (v : Byte) : (s.writeOp8 o v).run = s.run := by
  cases o with
  | reg r => exact State.run_setReg s r v
  | mem => rfl
@[simp] theorem State.cyc_writeOp8 (s : State) (o : Operand8) (v : Byte) : (s.writeOp8 o v).cyc = s.cyc := by
  cases o with
  | reg r => exact State.cyc_setReg s r v
  | mem => rfl
@[simp] theorem State.pc_setStackPair (s : State) (p : StackPair) (v : Word) : (s.setStackPair p v).pc = s.pc := by cases p <;> rfl
@[simp] theorem State.sp_setStackPair (s : State) (p : StackPair) (v : Word) : (s.setStackPair p v).sp = s.sp := by cases p <;> rfl
@[simp] theorem State.inte_setStackPair (s : State) (p : StackPair) (v : Word) : (s.setStackPair p v).inte = s.inte := by cases p <;> rfl
@[simp] theorem State.run_setStackPair (s : State) (p : StackPair) (v : Word) : (s.setStackPair p v).run = s.run := by cases p <;> rfl
@[simp] theorem State.cyc_setStackPair (s : State) (p : StackPair) (v : Word) : (s.setStackPair p v).cyc = s.cyc := by cases p <;> rfl
@[simp] theorem State.mem_setStackPair (s : State) (p : StackPair) (v : Word) : (s.setStackPair p v).mem = s.mem := by cases p <;> rfl

/-! ### Reading memory after an update -/

/-- Reading after writing one cell (R42). -/
@[simp] theorem State.read_write (s : State) (addr x : Word) (v : Byte) :
    (s.write addr v).read x = if x = addr then v else s.read x := Memory.read_write s.mem addr x v

/-- Reading after writing two cells: where they coincide the later write, to `addr + 1`, would win; they never do (R43). -/
theorem State.read_write16 (s : State) (addr v x : Word) :
    (s.write16 addr v).read x =
      if x = addr + 1 then hiByte v else if x = addr then loByte v else s.read x := by
  simp [State.write16]

/-- Reading after a push (R128). -/
theorem State.read_push16 (s : State) (v x : Word) :
    (s.push16 v).read x =
      if x = s.sp - 2 then loByte v else if x = s.sp - 1 then hiByte v else s.read x := by
  simp [State.push16]

@[simp] theorem State.read_dropTop (s : State) (x : Word) : s.dropTop.read x = s.read x := rfl
@[simp] theorem State.read_raiseFault (s : State) (cause : Fault) (x : Word) : (s.raiseFault cause).read x = s.read x := rfl
@[simp] theorem State.read_advance (s : State) (op : Byte) (x : Word) : (s.advance op).read x = s.read x := rfl
@[simp] theorem State.read_setPair (s : State) (p : RegPair) (v x : Word) : (s.setPair p v).read x = s.read x := by
  cases p <;> rfl
@[simp] theorem State.read_setStackPair (s : State) (p : StackPair) (v x : Word) :
    (s.setStackPair p v).read x = s.read x := by cases p <;> rfl

/-- Reading after writing an operand: only the form M reaches memory (R122, R123). -/
theorem State.read_writeOp8 (s : State) (o : Operand8) (v : Byte) (x : Word) :
    (s.writeOp8 o v).read x = if o = .mem ∧ x = s.hl then v else s.read x := by
  cases o with
  | reg r => simp [State.writeOp8]
  | mem => simp [State.writeOp8]

/-! ### Registers and pairs -/

/-- The registers after writing an operand (R123). -/
theorem State.reg_writeOp8 (s : State) (o : Operand8) (v : Byte) (r : Reg8) :
    (s.writeOp8 o v).reg r = if o = .reg r then v else s.reg r := by
  cases o with
  | reg r' => simp [State.writeOp8, eq_comm]
  | mem => simp [State.writeOp8]

/-- Addresses of the two bytes of a two-byte access differ, at every address (R43). -/
theorem Word.ne_add_one (addr : Word) : addr ≠ addr + 1 := by bv_omega

/-- The two slots of a push differ, at every SP (R128). -/
theorem Word.sub_one_ne_sub_two (sp : Word) : sp - 1 ≠ sp - 2 := by bv_omega

/-! ### The canonical form of memory, through the operations that write it -/

theorem State.wf_write {s : State} (h : s.mem.wf) (addr : Word) (v : Byte) : (s.write addr v).mem.wf :=
  Memory.wf_write h addr v

theorem State.wf_write16 {s : State} (h : s.mem.wf) (addr v : Word) : (s.write16 addr v).mem.wf :=
  Memory.wf_write (Memory.wf_write h _ _) _ _

theorem State.wf_push16 {s : State} (h : s.mem.wf) (v : Word) : (s.push16 v).mem.wf :=
  Memory.wf_write (Memory.wf_write h _ _) _ _

theorem State.wf_writeOp8 {s : State} (h : s.mem.wf) (o : Operand8) (v : Byte) : (s.writeOp8 o v).mem.wf := by
  cases o with
  | reg r => simpa [State.writeOp8] using h
  | mem => exact State.wf_write h _ _

/-! ### The end of an instruction -/

/-- `next` by the length of the opcode (R7). -/
theorem State.next_of_length {s : State} {op : Byte} {n : Nat} (h : opcodeLength op = n) :
    s.next op = s.pc + BitVec.ofNat 16 n := by rw [State.next, h]

/-- `next` depends on PC alone (R7). -/
theorem State.next_congr {s t : State} (h : s.pc = t.pc) (op : Byte) : s.next op = t.next op := by
  rw [State.next, State.next, h]

/-! ### Reset -/

/-- The memory after reset (R300). -/
theorem State.mem_resetWith (entry : Word) (mem0 : Word → Byte) : (State.resetWith entry mem0).mem = Memory.ofFun mem0 := by
  rw [State.resetWith]

/-- Memory after reset reads as MEM0 says (R300). -/
theorem State.read_resetWith (entry : Word) (mem0 : Word → Byte) (addr : Word) :
    (State.resetWith entry mem0).read addr = mem0 addr := by
  rw [State.read, State.mem_resetWith, Memory.read_ofFun]

end Sys2Proof.Machine
end

