-- ==== Sys2Proof/Laws/Operations.lean ====
section
/-! SUPPORT. What each shared operation of the instruction families does, once, as an update of the state: all that it
changes, and nothing else. The meanings are these operations applied to their opcode and operands. -/

namespace Sys2Proof.Machine

/-- Writing a register and ending: MOV r, MVI r. -/
theorem writeOp8_advance_reg (op : Byte) (r : Reg8) (v : Byte) (s : State) :
    (s.writeOp8 (.reg r) v).advance op =
      { s.setReg r v with pc := s.next op, cyc := s.cyc + cost op false } := by cases r <;> rfl

/-- Writing the byte at HL and ending: MOV M, MVI M. -/
theorem writeOp8_advance_mem (op : Byte) (v : Byte) (s : State) :
    (s.writeOp8 .mem v).advance op =
      { s with mem := s.mem.write s.hl v, pc := s.next op, cyc := s.cyc + cost op false } := by rfl

/-- Writing a pair and ending: LXI, INX, DCX. -/
theorem setPair_advance (op : Byte) (p : RegPair) (v : Word) (s : State) :
    (s.setPair p v).advance op =
      { s.setPair p v with pc := s.next op, cyc := s.cyc + cost op false } := by cases p <;> rfl

/-- LDA, LDAX (R146, R150). -/
theorem loadA_eq (op : Byte) (addr : Word) (s : State) :
    loadA op addr s =
      { s with a := s.read addr, pc := s.next op, cyc := s.cyc + cost op false } := by rfl

/-- STA, STAX (R147, R151). -/
theorem storeA_eq (op : Byte) (addr : Word) (s : State) :
    storeA op addr s =
      { s with mem := s.mem.write addr s.a, pc := s.next op, cyc := s.cyc + cost op false } := by rfl

/-- LHLD (R148). -/
theorem loadHL_eq (op : Byte) (addr : Word) (s : State) :
    loadHL op addr s =
      { s with h := s.read (addr + 1), l := s.read addr, pc := s.next op, cyc := s.cyc + cost op false } := by
  simp [loadHL, State.setPair, State.read16, State.setReg, State.advance, State.setPC, State.charge, State.next]

/-- SHLD (R149). -/
theorem storeHL_eq (op : Byte) (addr : Word) (s : State) :
    storeHL op addr s =
      { s with mem := (s.mem.write addr s.l).write (addr + 1) s.h, pc := s.next op, cyc := s.cyc + cost op false } := by
  simp [storeHL, State.write16, State.hl, State.pair, State.write, State.advance, State.setPC, State.charge, State.next]

/-- XCHG (R152). -/
theorem exchangeHLDE_eq (op : Byte) (s : State) :
    exchangeHLDE op s =
      { s with h := s.d, l := s.e, d := s.h, e := s.l, pc := s.next op, cyc := s.cyc + cost op false } := by
  simp [exchangeHLDE, State.setPair, State.setReg, State.hl, State.pair, State.advance, State.setPC, State.charge, State.next]

/-- A and the flags from a primitive: the ALU instructions (R160 to R171, R190 to R198). -/
theorem writeA_eq (op : Byte) (r : Byte × Flags) (s : State) :
    writeA op r s =
      { s with a := r.1, flags := r.2, pc := s.next op, cyc := s.cyc + cost op false } := by rfl

/-- A register and the flags from a primitive: INR r, DCR r (R172, R174). -/
theorem writeOperand_reg (op : Byte) (r : Reg8) (v : Byte × Flags) (s : State) :
    writeOperand op (.reg r) v s =
      { s.setReg r v.1 with flags := v.2, pc := s.next op, cyc := s.cyc + cost op false } := by cases r <;> rfl

/-- The byte at HL and the flags from a primitive: INR M, DCR M (R173, R175). -/
theorem writeOperand_mem (op : Byte) (v : Byte × Flags) (s : State) :
    writeOperand op .mem v s =
      { s with mem := s.mem.write s.hl v.1, flags := v.2, pc := s.next op, cyc := s.cyc + cost op false } := by rfl

/-- DAD (R178). -/
theorem addPair_eq (op : Byte) (p : RegPair) (s : State) :
    addPair op p s =
      { s.setPair .hl (BitVec.ofNat 16 (s.hl.toNat + (s.pair p).toNat)) with flags := { s.flags with cy := decide (s.hl.toNat + (s.pair p).toNat > 65535) }, pc := s.next op, cyc := s.cyc + cost op false } := by rfl

/-- CMP, CPI (R199 to R201). -/
theorem cmpA_eq (op v : Byte) (s : State) :
    cmpA op v s =
      { s with flags := (sub8 s.a v false s.flags).2, pc := s.next op, cyc := s.cyc + cost op false } := by rfl

/-- The rotates (R202 to R205). -/
theorem rotate_eq (op v : Byte) (cy : Bool) (s : State) :
    rotate op v cy s =
      { s with a := v, flags := { s.flags with cy := cy }, pc := s.next op, cyc := s.cyc + cost op false } := by rfl

/-- JMP, PCHL (R220, R227). -/
theorem jump_eq (op : Byte) (target : Word) (s : State) :
    jump op target s =
      { s with pc := target, cyc := s.cyc + cost op false } := by rfl

/-- Jcc (R221). -/
theorem jumpIf_eq (op : Byte) (cond : Cond) (target : Word) (s : State) :
    jumpIf op cond target s =
      { s with
        pc := if condHolds s.flags cond then target else s.next op
        cyc := s.cyc + cost op (condHolds s.flags cond) } := by
  cases h : condHolds s.flags cond <;> simp [jumpIf, h, State.advance, State.setPC, State.charge, State.next]

/-- CALL, RST (R222, R226). -/
theorem callTo_eq (op : Byte) (target : Word) (s : State) :
    callTo op target s =
      { s.push16 (s.next op) with pc := target, cyc := s.cyc + cost op false } := by
  simp [callTo, State.setPC, State.charge]

/-- Ccc, taken (R223). -/
theorem callIf_taken {cond : Cond} {s : State} (h : condHolds s.flags cond = true) (op : Byte) (target : Word) :
    callIf op cond target s =
      { s.push16 (s.next op) with pc := target, cyc := s.cyc + cost op true } := by
  simp [callIf, h, State.setPC, State.charge]

/-- Ccc, not taken (R223). -/
theorem callIf_not_taken {cond : Cond} {s : State} (h : condHolds s.flags cond = false) (op : Byte) (target : Word) :
    callIf op cond target s =
      { s with pc := s.next op, cyc := s.cyc + cost op false } := by
  rw [callIf, if_neg (by simp [h])]; rfl

/-- RET (R224). -/
theorem returnTo_eq (op : Byte) (s : State) :
    returnTo op s =
      { s with pc := s.stackTop, sp := s.sp + 2, cyc := s.cyc + cost op false } := by rfl

/-- Rcc, taken (R225). -/
theorem returnIf_taken {cond : Cond} {s : State} (h : condHolds s.flags cond = true) (op : Byte) :
    returnIf op cond s =
      { s with pc := s.stackTop, sp := s.sp + 2, cyc := s.cyc + cost op true } := by rw [returnIf, if_pos h]; rfl

/-- Rcc, not taken (R225). -/
theorem returnIf_not_taken {cond : Cond} {s : State} (h : condHolds s.flags cond = false) (op : Byte) :
    returnIf op cond s =
      { s with pc := s.next op, cyc := s.cyc + cost op false } := by
  rw [returnIf, if_neg (by simp [h])]; rfl

/-- PUSH (R240, R241). -/
theorem push_eq (op : Byte) (p : StackPair) (s : State) :
    push op p s =
      { s.push16 (s.stackPair p) with pc := s.next op, cyc := s.cyc + cost op false } := by
  simp [push, State.advance, State.setPC, State.charge, State.next]

/-- POP (R242, R243). -/
theorem pop_pair (op : Byte) (p : StackPair) (s : State) :
    pop op p s =
      { s.setStackPair p s.stackTop with sp := s.sp + 2, pc := s.next op, cyc := s.cyc + cost op false } := by cases p <;> rfl

/-- XTHL (R244). -/
theorem exchangeTopHL_eq (op : Byte) (s : State) :
    exchangeTopHL op s =
      { s with h := s.read (s.sp + 1), l := s.read s.sp, mem := (s.mem.write s.sp s.l).write (s.sp + 1) s.h, pc := s.next op, cyc := s.cyc + cost op false } := by
  simp [exchangeTopHL, State.write16, State.setPair, State.setReg, State.hl, State.pair, State.stackTop, State.read16,
    State.write, State.advance, State.setPC, State.charge, State.next]

end Sys2Proof.Machine
end

