-- ==== Sys2Proof/Laws/Step.lean ====
section
/-! SUPPORT. What a step can be, once: every instruction answers a next state, and a step is the execution of the fetched
instruction or nothing. -/

namespace Sys2Proof.Machine

/-- Every instruction, in every state, answers a next state (log entry 4). -/
theorem exec_next (i : Instr) (s : State) : ∃ t, exec i s = .next t := by cases i <;> exact ⟨_, rfl⟩

/-- A Running core executes the instruction it fetches (R260). -/
theorem step_running {s : State} (h : s.run = .running) : step s = exec s.fetch s := by simp [step, h]

/-- All that a step can be: the execution of the fetched instruction by a Running core, or no change. -/
theorem step_cases {s t : State} (h : step s = .next t) :
    s.run = .running ∧ exec s.fetch s = .next t ∨ s.run ≠ .running ∧ t = s := by
  cases hr : s.run <;> simp_all [step]

/-- Every step answers a next state. -/
theorem step_next (s : State) : ∃ t, step s = .next t := by
  cases h : s.run with
  | running => rw [step_running h]; exact exec_next _ _
  | halted => exact ⟨s, by simp [step, h]⟩
  | faulted cause => exact ⟨s, by simp [step, h]⟩

end Sys2Proof.Machine
end

