-- ==== Sys2Proof/Tests/Slice0.lean ====
section
/-! SUPPORT. The model's own tests: the refusals of WellFormed, words decoded, single steps whose expected values are those of
the test vectors of 95_test_vectors (each docstring names its vector), and, for each statement with hypotheses, a state and
operands that meet them. -/

namespace Sys2Proof.Tests
open Sys2Proof.Machine

/-- The state with bytes placed from an address on. -/
def place (addr : Word) (s : State) : List Byte → State
  | [] => s
  | v :: rest => place (addr + 1) (s.write addr v) rest

/-- The reset state with an instruction at PC. -/
def load (bytes : List Byte) : State := place Config.entry State.reset bytes

/-- The state after one step. -/
def stepped (s : State) : State :=
  match step s with
  | .next t => t
  | _ => s

/-! ## WellFormed: the twelve ill-formed terms are refused, others are not (R71, R73) -/

theorem test_wf_refuses_undef08 : Instr.wf .undef08 = false := by decide
theorem test_wf_refuses_undef10 : Instr.wf .undef10 = false := by decide
theorem test_wf_refuses_undef18 : Instr.wf .undef18 = false := by decide
theorem test_wf_refuses_undef20 : Instr.wf .undef20 = false := by decide
theorem test_wf_refuses_undef28 : Instr.wf .undef28 = false := by decide
theorem test_wf_refuses_undef30 : Instr.wf .undef30 = false := by decide
theorem test_wf_refuses_undef38 : Instr.wf .undef38 = false := by decide
theorem test_wf_refuses_undefCB : Instr.wf .undefCB = false := by decide
theorem test_wf_refuses_undefD9 : Instr.wf .undefD9 = false := by decide
theorem test_wf_refuses_undefDD : Instr.wf .undefDD = false := by decide
theorem test_wf_refuses_undefED : Instr.wf .undefED = false := by decide
theorem test_wf_refuses_undefFD : Instr.wf .undefFD = false := by decide
theorem test_wf_takes_others :
    [Instr.nop, .hlt, .daa, .inPort 0xFF#8, .jmp 0#16, .ret, .call 0#16].all Instr.wf = true := by decide

/-! ## Decoding: the bits of each family, written out from the encoding its rule gives -/

/-- MOV D,M: 01 ddd sss with D = 010, M = 110. -/
theorem test_decode_mov_d_m : decodeBytes [0b01_010_110#8] = .instr .movDM [] := by decide

/-- 01 110 110 is HLT. -/
theorem test_decode_hlt_is_not_mov_m_m : decodeBytes [0b01_110_110#8] = .instr .hlt [] := by decide

/-- MVI L: 00 ddd 110 with L = 101. -/
theorem test_decode_mvi_l : decodeBytes [0b00_101_110#8, 0xA5#8] = .instr (.mviL 0xA5#8) [] := by decide

/-- LXI SP: 00 rp 0 001 with SP = 11; low byte first. -/
theorem test_decode_lxi_sp : decodeBytes [0b00_11_0001#8, 0x34#8, 0x12#8, 0xEE#8] = .instr (.lxiSP 0x1234#16) [0xEE#8] := by decide

/-- STAX D: 00 0 1 0 010. -/
theorem test_decode_stax_d : decodeBytes [0b00_01_0010#8] = .instr .staxD [] := by decide

/-- LDAX B: 00 0 0 1 010. -/
theorem test_decode_ldax_b : decodeBytes [0b00_00_1010#8] = .instr .ldaxB [] := by decide

/-- SHLD: 00 100 010. -/
theorem test_decode_shld : decodeBytes [0b00_100_010#8, 0xFE#8, 0xCA#8] = .instr (.shld 0xCAFE#16) [] := by decide

/-- LDA: 00 111 010. -/
theorem test_decode_lda : decodeBytes [0b00_111_010#8, 0x01#8, 0x80#8] = .instr (.lda 0x8001#16) [] := by decide

/-- INX H: 00 rp 0 011. -/
theorem test_decode_inx_h : decodeBytes [0b00_10_0011#8] = .instr .inxH [] := by decide

/-- DCX D: 00 rp 1 011. -/
theorem test_decode_dcx_d : decodeBytes [0b00_01_1011#8] = .instr .dcxD [] := by decide

/-- DAD SP: 00 rp 1 001. -/
theorem test_decode_dad_sp : decodeBytes [0b00_11_1001#8] = .instr .dadSP [] := by decide

/-- INR M: 00 ddd 100. -/
theorem test_decode_inr_m : decodeBytes [0b00_110_100#8] = .instr .inrM [] := by decide

/-- DCR E: 00 ddd 101. -/
theorem test_decode_dcr_e : decodeBytes [0b00_011_101#8] = .instr .dcrE [] := by decide

/-- SBB H: 10 alu sss with SBB = 011, H = 100. -/
theorem test_decode_sbb_h : decodeBytes [0b10_011_100#8] = .instr .sbbH [] := by decide

/-- CMP M: 10 alu sss. -/
theorem test_decode_cmp_m : decodeBytes [0b10_111_110#8] = .instr .cmpM [] := by decide

/-- XRI: 11 alu 110 with XRA = 101. -/
theorem test_decode_xri : decodeBytes [0b11_101_110#8, 0x0F#8] = .instr (.xri 0x0F#8) [] := by decide

/-- RAL: 00 010 111. -/
theorem test_decode_rotates : decodeBytes [0b00_010_111#8] = .instr .ral [] := by decide

/-- DAA: 00 100 111. -/
theorem test_decode_daa : decodeBytes [0b00_100_111#8] = .instr .daa [] := by decide

/-- CMC: 00 111 111. -/
theorem test_decode_cmc : decodeBytes [0b00_111_111#8] = .instr .cmc [] := by decide

/-- JPE: 11 ccc 010 with PE = 101. -/
theorem test_decode_jpe : decodeBytes [0b11_101_010#8, 0x00#8, 0x20#8] = .instr (.jpe 0x2000#16) [] := by decide

/-- CM: 11 ccc 100 with M = 111. -/
theorem test_decode_cm : decodeBytes [0b11_111_100#8, 0x00#8, 0x20#8] = .instr (.cm 0x2000#16) [] := by decide

/-- RNC: 11 ccc 000 with NC = 010. -/
theorem test_decode_rnc : decodeBytes [0b11_010_000#8] = .instr .rnc [] := by decide

/-- RST 6: 11 nnn 111. -/
theorem test_decode_rst_6 : decodeBytes [0b11_110_111#8] = .instr .rst6 [] := by decide

/-- PUSH PSW: 11 rp 0 101 with PSW = 11. -/
theorem test_decode_push_psw : decodeBytes [0b11_11_0101#8] = .instr .pushPSW [] := by decide

/-- POP H: 11 rp 0 001. -/
theorem test_decode_pop_h : decodeBytes [0b11_10_0001#8] = .instr .popH [] := by decide

/-- XTHL: 11 100 011. -/
theorem test_decode_xthl : decodeBytes [0b11_100_011#8] = .instr .xthl [] := by decide

/-- OUT: 11 010 011. -/
theorem test_decode_out : decodeBytes [0b11_010_011#8, 0x7F#8] = .instr (.outPort 0x7F#8) [] := by decide

/-- EI: 11 111 011. -/
theorem test_decode_ei : decodeBytes [0b11_111_011#8] = .instr .ei [] := by decide

/-- 0xCB is undefined and one byte long. -/
theorem test_decode_undefined : decodeBytes [0b11_001_011#8, 0xC3#8] = .instr .undefCB [0xC3#8] := by decide

/-- No bytes, and a missing operand byte, are rejected by name. -/
theorem test_decode_rejects : decodeBytes [] = .rejected .noOpcode ∧ decodeBytes [0x3E#8] = .rejected (.missingOperand 0x3E#8) ∧
    decodeBytes [0xC3#8, 0x00#8] = .rejected (.missingOperand 0xC3#8) := by decide

/-- The table's numbering: the second byte of a word is bits 15 to 8, and bits above `nbits` read as 0. -/
theorem test_decodeTableWord : decodeTableWord 24 0x2000C3 = some (.jmp 0x2000#16) ∧
    decodeTableWord 8 0xFFC3 = some (.jmp 0#16) ∧ decodeTableWord 16 0x053E = some (.mviA 0x05#8) := by decide

/-- A table word is what the very next step executes, from reset. -/
theorem test_withFetchWord : (stepped (State.reset.withFetchWord 16 0x053E)).a = 0x05#8 := by decide

/-- The sixteen opcode bytes 0x00 to 0x0F in order, by the list of R70 and R71, with operand bytes 0x34, 0x12. -/
theorem test_decode_row_0 : (List.range 16).map (fun k => decode (BitVec.ofNat 8 (0x00 + k)) 0x34#8 0x12#8) =
    [.nop, .lxiB 0x1234#16, .staxB, .inxB, .inrB, .dcrB, .mviB 0x34#8, .rlc, .undef08, .dadB, .ldaxB, .dcxB, .inrC,
     .dcrC, .mviC 0x34#8, .rrc] := by
  decide

/-- The sixteen opcode bytes 0x10 to 0x1F in order, by the list of R70 and R71, with operand bytes 0x34, 0x12. -/
theorem test_decode_row_1 : (List.range 16).map (fun k => decode (BitVec.ofNat 8 (0x10 + k)) 0x34#8 0x12#8) =
    [.undef10, .lxiD 0x1234#16, .staxD, .inxD, .inrD, .dcrD, .mviD 0x34#8, .ral, .undef18, .dadD, .ldaxD, .dcxD,
     .inrE, .dcrE, .mviE 0x34#8, .rar] := by
  decide

/-- The sixteen opcode bytes 0x20 to 0x2F in order, by the list of R70 and R71, with operand bytes 0x34, 0x12. -/
theorem test_decode_row_2 : (List.range 16).map (fun k => decode (BitVec.ofNat 8 (0x20 + k)) 0x34#8 0x12#8) =
    [.undef20, .lxiH 0x1234#16, .shld 0x1234#16, .inxH, .inrH, .dcrH, .mviH 0x34#8, .daa, .undef28, .dadH, .lhld
     0x1234#16, .dcxH, .inrL, .dcrL, .mviL 0x34#8, .cma] := by
  decide

/-- The sixteen opcode bytes 0x30 to 0x3F in order, by the list of R70 and R71, with operand bytes 0x34, 0x12. -/
theorem test_decode_row_3 : (List.range 16).map (fun k => decode (BitVec.ofNat 8 (0x30 + k)) 0x34#8 0x12#8) =
    [.undef30, .lxiSP 0x1234#16, .sta 0x1234#16, .inxSP, .inrM, .dcrM, .mviM 0x34#8, .stc, .undef38, .dadSP, .lda
     0x1234#16, .dcxSP, .inrA, .dcrA, .mviA 0x34#8, .cmc] := by
  decide

/-- The sixteen opcode bytes 0x40 to 0x4F in order, by the list of R70 and R71, with operand bytes 0x34, 0x12. -/
theorem test_decode_row_4 : (List.range 16).map (fun k => decode (BitVec.ofNat 8 (0x40 + k)) 0x34#8 0x12#8) =
    [.movBB, .movBC, .movBD, .movBE, .movBH, .movBL, .movBM, .movBA, .movCB, .movCC, .movCD, .movCE, .movCH, .movCL,
     .movCM, .movCA] := by
  decide

/-- The sixteen opcode bytes 0x50 to 0x5F in order, by the list of R70 and R71, with operand bytes 0x34, 0x12. -/
theorem test_decode_row_5 : (List.range 16).map (fun k => decode (BitVec.ofNat 8 (0x50 + k)) 0x34#8 0x12#8) =
    [.movDB, .movDC, .movDD, .movDE, .movDH, .movDL, .movDM, .movDA, .movEB, .movEC, .movED, .movEE, .movEH, .movEL,
     .movEM, .movEA] := by
  decide

/-- The sixteen opcode bytes 0x60 to 0x6F in order, by the list of R70 and R71, with operand bytes 0x34, 0x12. -/
theorem test_decode_row_6 : (List.range 16).map (fun k => decode (BitVec.ofNat 8 (0x60 + k)) 0x34#8 0x12#8) =
    [.movHB, .movHC, .movHD, .movHE, .movHH, .movHL, .movHM, .movHA, .movLB, .movLC, .movLD, .movLE, .movLH, .movLL,
     .movLM, .movLA] := by
  decide

/-- The sixteen opcode bytes 0x70 to 0x7F in order, by the list of R70 and R71, with operand bytes 0x34, 0x12. -/
theorem test_decode_row_7 : (List.range 16).map (fun k => decode (BitVec.ofNat 8 (0x70 + k)) 0x34#8 0x12#8) =
    [.movMB, .movMC, .movMD, .movME, .movMH, .movML, .hlt, .movMA, .movAB, .movAC, .movAD, .movAE, .movAH, .movAL,
     .movAM, .movAA] := by
  decide

/-- The sixteen opcode bytes 0x80 to 0x8F in order, by the list of R70 and R71, with operand bytes 0x34, 0x12. -/
theorem test_decode_row_8 : (List.range 16).map (fun k => decode (BitVec.ofNat 8 (0x80 + k)) 0x34#8 0x12#8) =
    [.addB, .addC, .addD, .addE, .addH, .addL, .addM, .addA, .adcB, .adcC, .adcD, .adcE, .adcH, .adcL, .adcM, .adcA] := by
  decide

/-- The sixteen opcode bytes 0x90 to 0x9F in order, by the list of R70 and R71, with operand bytes 0x34, 0x12. -/
theorem test_decode_row_9 : (List.range 16).map (fun k => decode (BitVec.ofNat 8 (0x90 + k)) 0x34#8 0x12#8) =
    [.subB, .subC, .subD, .subE, .subH, .subL, .subM, .subA, .sbbB, .sbbC, .sbbD, .sbbE, .sbbH, .sbbL, .sbbM, .sbbA] := by
  decide

/-- The sixteen opcode bytes 0xA0 to 0xAF in order, by the list of R70 and R71, with operand bytes 0x34, 0x12. -/
theorem test_decode_row_A : (List.range 16).map (fun k => decode (BitVec.ofNat 8 (0xA0 + k)) 0x34#8 0x12#8) =
    [.anaB, .anaC, .anaD, .anaE, .anaH, .anaL, .anaM, .anaA, .xraB, .xraC, .xraD, .xraE, .xraH, .xraL, .xraM, .xraA] := by
  decide

/-- The sixteen opcode bytes 0xB0 to 0xBF in order, by the list of R70 and R71, with operand bytes 0x34, 0x12. -/
theorem test_decode_row_B : (List.range 16).map (fun k => decode (BitVec.ofNat 8 (0xB0 + k)) 0x34#8 0x12#8) =
    [.oraB, .oraC, .oraD, .oraE, .oraH, .oraL, .oraM, .oraA, .cmpB, .cmpC, .cmpD, .cmpE, .cmpH, .cmpL, .cmpM, .cmpA] := by
  decide

/-- The sixteen opcode bytes 0xC0 to 0xCF in order, by the list of R70 and R71, with operand bytes 0x34, 0x12. -/
theorem test_decode_row_C : (List.range 16).map (fun k => decode (BitVec.ofNat 8 (0xC0 + k)) 0x34#8 0x12#8) =
    [.rnz, .popB, .jnz 0x1234#16, .jmp 0x1234#16, .cnz 0x1234#16, .pushB, .adi 0x34#8, .rst0, .rz, .ret, .jz
     0x1234#16, .undefCB, .cz 0x1234#16, .call 0x1234#16, .aci 0x34#8, .rst1] := by
  decide

/-- The sixteen opcode bytes 0xD0 to 0xDF in order, by the list of R70 and R71, with operand bytes 0x34, 0x12. -/
theorem test_decode_row_D : (List.range 16).map (fun k => decode (BitVec.ofNat 8 (0xD0 + k)) 0x34#8 0x12#8) =
    [.rnc, .popD, .jnc 0x1234#16, .outPort 0x34#8, .cnc 0x1234#16, .pushD, .sui 0x34#8, .rst2, .rc, .undefD9, .jc
     0x1234#16, .inPort 0x34#8, .cc 0x1234#16, .undefDD, .sbi 0x34#8, .rst3] := by
  decide

/-- The sixteen opcode bytes 0xE0 to 0xEF in order, by the list of R70 and R71, with operand bytes 0x34, 0x12. -/
theorem test_decode_row_E : (List.range 16).map (fun k => decode (BitVec.ofNat 8 (0xE0 + k)) 0x34#8 0x12#8) =
    [.rpo, .popH, .jpo 0x1234#16, .xthl, .cpo 0x1234#16, .pushH, .ani 0x34#8, .rst4, .rpe, .pchl, .jpe 0x1234#16,
     .xchg, .cpe 0x1234#16, .undefED, .xri 0x34#8, .rst5] := by
  decide

/-- The sixteen opcode bytes 0xF0 to 0xFF in order, by the list of R70 and R71, with operand bytes 0x34, 0x12. -/
theorem test_decode_row_F : (List.range 16).map (fun k => decode (BitVec.ofNat 8 (0xF0 + k)) 0x34#8 0x12#8) =
    [.rp, .popPSW, .jp 0x1234#16, .di, .cp 0x1234#16, .pushPSW, .ori 0x34#8, .rst6, .rm, .sphl, .jm 0x1234#16, .ei,
     .cm 0x1234#16, .undefFD, .cpi 0x34#8, .rst7] := by
  decide

/-! ## Single steps -/

/-- V1. -/
theorem test_step_mov_b_c :
    let t := stepped ({ load [0x41#8] with b := 0x12#8, c := 0x34#8 })
    (t.b, t.pc, t.cyc) = (0x34#8, 0x0101#16, 5) := by decide

/-- V4. -/
theorem test_step_mov_a_m :
    let t := stepped ({ (load [0x7E#8]).write 0x2000#16 0x42#8 with h := 0x20#8 })
    (t.a, t.pc, t.cyc) = (0x42#8, 0x0101#16, 7) := by decide

/-- V5. -/
theorem test_step_mov_l_m :
    let t := stepped ({ (load [0x6E#8]).write 0x2000#16 0x42#8 with h := 0x20#8 })
    (t.l, t.pc, t.cyc) = (0x42#8, 0x0101#16, 7) := by decide

/-- V8. -/
theorem test_step_mov_m_b_hl_ffff :
    let t := stepped ({ load [0x70#8] with b := 0x77#8, h := 0xFF#8, l := 0xFF#8 })
    (t.pc, t.read 0xFFFF#16, t.cyc) = (0x0101#16, 0x77#8, 7) := by decide

/-- V12. -/
theorem test_step_mvi_m_0x42_hl_0x0100_overwrites_its_own_opcode_byte :
    let t := stepped ({ load [0x36#8, 0x42#8] with h := 0x01#8 })
    (t.pc, t.read 0x0100#16, t.cyc) = (0x0102#16, 0x42#8, 10) := by decide

/-- V13. -/
theorem test_step_lxi_b_0x1234 :
    let t := stepped (load [0x01#8, 0x34#8, 0x12#8])
    (t.b, t.c, t.pc, t.cyc) = (0x12#8, 0x34#8, 0x0103#16, 10) := by decide

/-- V16. -/
theorem test_step_lxi_sp_0x2400 :
    let t := stepped (load [0x31#8, 0x00#8, 0x24#8])
    (t.sp, t.pc, t.cyc) = (0x2400#16, 0x0103#16, 10) := by decide

/-- V17. -/
theorem test_step_lda_0x1234 :
    let t := stepped ((load [0x3A#8, 0x34#8, 0x12#8]).write 0x1234#16 0x77#8)
    (t.a, t.pc, t.cyc) = (0x77#8, 0x0103#16, 13) := by decide

/-- V19. -/
theorem test_step_sta_0x0101_own_operand_byte :
    let t := stepped ({ load [0x32#8, 0x01#8, 0x01#8] with a := 0xEE#8 })
    (t.pc, t.read 0x0101#16, t.cyc) = (0x0103#16, 0xEE#8, 13) := by decide

/-- V21. -/
theorem test_step_lhld_0xffff_wraps :
    let t := stepped (((load [0x2A#8, 0xFF#8, 0xFF#8]).write 0x0000#16 0xAB#8).write 0xFFFF#16 0xCD#8)
    (t.h, t.l, t.pc, t.cyc) = (0xAB#8, 0xCD#8, 0x0103#16, 16) := by decide

/-- V23. -/
theorem test_step_shld_0xffff_wraps :
    let t := stepped ({ load [0x22#8, 0xFF#8, 0xFF#8] with h := 0xAB#8, l := 0xCD#8 })
    (t.pc, t.read 0x0000#16, t.read 0xFFFF#16, t.cyc) = (0x0103#16, 0xAB#8, 0xCD#8, 16) := by decide

/-- V24. -/
theorem test_step_ldax_b :
    let t := stepped ({ (load [0x0A#8]).write 0x2001#16 0x0F#8 with b := 0x20#8, c := 0x01#8 })
    (t.a, t.pc, t.cyc) = (0x0F#8, 0x0101#16, 7) := by decide

/-- V27. -/
theorem test_step_stax_d :
    let t := stepped ({ load [0x12#8] with a := 0x22#8, d := 0x40#8, e := 0x01#8 })
    (t.pc, t.read 0x4001#16, t.cyc) = (0x0101#16, 0x22#8, 7) := by decide

/-- V28. -/
theorem test_step_xchg :
    let t := stepped ({ load [0xEB#8] with d := 0x33#8, e := 0x44#8, h := 0x11#8, l := 0x22#8 })
    (t.d, t.e, t.h, t.l, t.pc, t.cyc) = (0x11#8, 0x22#8, 0x33#8, 0x44#8, 0x0101#16, 4) := by decide

/-- V33. -/
theorem test_step_add_b_0xff_0x01 :
    let t := stepped ({ load [0x80#8] with a := 0xFF#8, b := 0x01#8 })
    (t.a, t.pc, t.flags, t.cyc) = (0x00#8, 0x0101#16, ⟨true, true, false, true, true⟩, 4) := by decide

/-- V34. -/
theorem test_step_add_a_doubling_0x88 :
    let t := stepped ({ load [0x87#8] with a := 0x88#8 })
    (t.a, t.pc, t.flags, t.cyc) = (0x10#8, 0x0101#16, ⟨true, true, false, false, false⟩, 4) := by decide

/-- V36. -/
theorem test_step_adi_0x42 :
    let t := stepped ({ load [0xC6#8, 0x42#8] with a := 0x14#8 })
    (t.a, t.pc, t.flags, t.cyc) = (0x56#8, 0x0102#16, ⟨false, false, false, false, true⟩, 7) := by decide

/-- V37. -/
theorem test_step_adc_c_cy_1 :
    let t := stepped ({ load [0x89#8] with a := 0x42#8, c := 0x3D#8, flags := ⟨true, false, false, false, false⟩ })
    (t.a, t.pc, t.flags, t.cyc) = (0x80#8, 0x0101#16, ⟨false, true, true, false, false⟩, 4) := by decide

/-- V40. -/
theorem test_step_adc_b_0x0f_0x00_1 :
    let t := stepped ({ load [0x88#8] with a := 0x0F#8, flags := ⟨true, false, false, false, false⟩ })
    (t.a, t.pc, t.flags, t.cyc) = (0x10#8, 0x0101#16, ⟨false, true, false, false, false⟩, 4) := by decide

/-- V42. -/
theorem test_step_aci_0xbe_cy_1 :
    let t := stepped ({ load [0xCE#8, 0xBE#8] with a := 0x56#8, flags := ⟨true, false, false, false, false⟩ })
    (t.a, t.pc, t.flags, t.cyc) = (0x15#8, 0x0102#16, ⟨true, true, false, false, false⟩, 7) := by decide

/-- V43. -/
theorem test_step_sub_a :
    let t := stepped ({ load [0x97#8] with a := 0x3E#8 })
    (t.a, t.pc, t.flags, t.cyc) = (0x00#8, 0x0101#16, ⟨false, true, false, true, true⟩, 4) := by decide

/-- V45. -/
theorem test_step_sub_b_0x10_0x01 :
    let t := stepped ({ load [0x90#8] with a := 0x10#8, b := 0x01#8 })
    (t.a, t.pc, t.flags, t.cyc) = (0x0F#8, 0x0101#16, ⟨false, false, false, false, true⟩, 4) := by decide

/-- V48. -/
theorem test_step_sub_m :
    let t := stepped ({ (load [0x96#8]).write 0x2000#16 0x60#8 with a := 0x50#8, h := 0x20#8 })
    (t.a, t.pc, t.flags, t.cyc) = (0xF0#8, 0x0101#16, ⟨true, true, true, false, true⟩, 7) := by decide

/-- V49. -/
theorem test_step_sui_0x01 :
    let t := stepped (load [0xD6#8, 0x01#8])
    (t.a, t.pc, t.flags, t.cyc) = (0xFF#8, 0x0102#16, ⟨true, false, true, false, true⟩, 7) := by decide

/-- V51. -/
theorem test_step_sbb_b_0x00_0x00_1 :
    let t := stepped ({ load [0x98#8] with flags := ⟨true, false, false, false, false⟩ })
    (t.a, t.pc, t.flags, t.cyc) = (0xFF#8, 0x0101#16, ⟨true, false, true, false, true⟩, 4) := by decide

/-- V53. -/
theorem test_step_sbb_b_0x10_0x0f_1 :
    let t := stepped ({ load [0x98#8] with a := 0x10#8, b := 0x0F#8, flags := ⟨true, false, false, false, false⟩ })
    (t.a, t.pc, t.flags, t.cyc) = (0x00#8, 0x0101#16, ⟨false, false, false, true, true⟩, 4) := by decide

/-- V55. -/
theorem test_step_sbi_0x01_cy_1 :
    let t := stepped ({ load [0xDE#8, 0x01#8] with flags := ⟨true, false, false, false, false⟩ })
    (t.a, t.pc, t.flags, t.cyc) = (0xFE#8, 0x0102#16, ⟨true, false, true, false, false⟩, 7) := by decide

/-- V58. -/
theorem test_step_inr_b_0xff_cy_1 :
    let t := stepped ({ load [0x04#8] with b := 0xFF#8, flags := ⟨true, false, false, false, false⟩ })
    (t.b, t.pc, t.flags, t.cyc) = (0x00#8, 0x0101#16, ⟨true, true, false, true, true⟩, 5) := by decide

/-- V61. -/
theorem test_step_inr_m :
    let t := stepped ({ (load [0x34#8]).write 0x2000#16 0x99#8 with h := 0x20#8 })
    (t.pc, t.flags, t.read 0x2000#16, t.cyc) = (0x0101#16, ⟨false, false, true, false, true⟩, 0x9A#8, 10) := by decide

/-- V63. -/
theorem test_step_dcr_b_0x00_cy_0 :
    let t := stepped (load [0x05#8])
    (t.b, t.pc, t.flags, t.cyc) = (0xFF#8, 0x0101#16, ⟨false, false, true, false, true⟩, 5) := by decide

/-- V67. -/
theorem test_step_dcr_m :
    let t := stepped ({ (load [0x35#8]).write 0x2000#16 0x40#8 with h := 0x20#8 })
    (t.pc, t.flags, t.read 0x2000#16, t.cyc) = (0x0101#16, ⟨false, false, false, false, true⟩, 0x3F#8, 10) := by decide

/-- V68. -/
theorem test_step_inx_b :
    let t := stepped ({ load [0x03#8] with c := 0xFF#8, flags := ⟨false, false, false, true, false⟩ })
    (t.b, t.c, t.pc, t.flags, t.cyc) = (0x01#8, 0x00#8, 0x0101#16, ⟨false, false, false, true, false⟩, 5) := by decide

/-- V71. -/
theorem test_step_inx_sp_wraps :
    let t := stepped ({ load [0x33#8] with sp := 0xFFFF#16 })
    (t.sp, t.pc, t.flags, t.cyc) = (0x0000#16, 0x0101#16, ⟨false, false, false, false, false⟩, 5) := by decide

/-- V72. -/
theorem test_step_dcx_b_wraps :
    let t := stepped (load [0x0B#8])
    (t.b, t.c, t.pc, t.flags, t.cyc) = (0xFF#8, 0xFF#8, 0x0101#16, ⟨false, false, false, false, false⟩, 5) := by decide

/-- V76. -/
theorem test_step_dad_b :
    let t := stepped ({ load [0x09#8] with b := 0x33#8, c := 0x9F#8, h := 0xA1#8, l := 0x7B#8, flags := ⟨false, false, true, true, false⟩ })
    (t.h, t.l, t.pc, t.flags, t.cyc) = (0xD5#8, 0x1A#8, 0x0101#16, ⟨false, false, true, true, false⟩, 10) := by decide

/-- V77. -/
theorem test_step_dad_d_carry :
    let t := stepped ({ load [0x19#8] with e := 0x01#8, h := 0xFF#8, l := 0xFF#8, flags := ⟨false, true, false, false, true⟩ })
    (t.h, t.l, t.pc, t.flags, t.cyc) = (0x00#8, 0x00#8, 0x0101#16, ⟨true, true, false, false, true⟩, 10) := by decide

/-- V78. -/
theorem test_step_dad_h_shift :
    let t := stepped ({ load [0x29#8] with h := 0x80#8, l := 0x01#8 })
    (t.h, t.l, t.pc, t.flags, t.cyc) = (0x00#8, 0x02#8, 0x0101#16, ⟨true, false, false, false, false⟩, 10) := by decide

/-- V80. -/
theorem test_step_daa :
    let t := stepped ({ load [0x27#8] with a := 0x9B#8 })
    (t.pc, t.flags, t.run, t.cyc) = (0x0100#16, ⟨false, false, false, false, false⟩, .faulted .notImplementedDAA, 0) := by decide

/-- V81. -/
theorem test_step_ana_c :
    let t := stepped ({ load [0xA1#8] with a := 0xFC#8, c := 0x0F#8, flags := ⟨true, true, false, false, false⟩ })
    (t.a, t.pc, t.flags, t.cyc) = (0x0C#8, 0x0101#16, ⟨false, false, false, false, true⟩, 4) := by decide

/-- V84. -/
theorem test_step_ani_0x0f :
    let t := stepped ({ load [0xE6#8, 0x0F#8] with a := 0x3A#8 })
    (t.a, t.pc, t.flags, t.cyc) = (0x0A#8, 0x0102#16, ⟨false, false, false, false, true⟩, 7) := by decide

/-- V85. -/
theorem test_step_xra_a :
    let t := stepped ({ load [0xAF#8] with a := 0x5A#8, flags := ⟨true, true, true, false, false⟩ })
    (t.a, t.pc, t.flags, t.cyc) = (0x00#8, 0x0101#16, ⟨false, false, false, true, true⟩, 4) := by decide

/-- V88. -/
theorem test_step_xri_0x81 :
    let t := stepped ({ load [0xEE#8, 0x81#8] with a := 0x3B#8 })
    (t.a, t.pc, t.flags, t.cyc) = (0xBA#8, 0x0102#16, ⟨false, false, true, false, false⟩, 7) := by decide

/-- V90. -/
theorem test_step_ora_a_a_0 :
    let t := stepped ({ load [0xB7#8] with flags := ⟨true, true, false, false, false⟩ })
    (t.pc, t.flags, t.cyc) = (0x0101#16, ⟨false, false, false, true, true⟩, 4) := by decide

/-- V92. -/
theorem test_step_ori_0x0f :
    let t := stepped ({ load [0xF6#8, 0x0F#8] with a := 0xB5#8 })
    (t.a, t.pc, t.flags, t.cyc) = (0xBF#8, 0x0102#16, ⟨false, false, true, false, false⟩, 7) := by decide

/-- V94. -/
theorem test_step_cmp_e_a_e :
    let t := stepped ({ load [0xBB#8] with a := 0x02#8, e := 0x05#8 })
    (t.pc, t.flags, t.cyc) = (0x0101#16, ⟨true, false, true, false, false⟩, 4) := by decide

/-- V97. -/
theorem test_step_cmp_m_equal :
    let t := stepped ({ (load [0xBE#8]).write 0x2000#16 0x42#8 with a := 0x42#8, h := 0x20#8 })
    (t.pc, t.flags, t.cyc) = (0x0101#16, ⟨false, true, false, true, true⟩, 7) := by decide

/-- V99. -/
theorem test_step_cpi_0x00_a_0 :
    let t := stepped ({ load [0xFE#8, 0x00#8] with flags := ⟨true, false, false, false, false⟩ })
    (t.pc, t.flags, t.cyc) = (0x0102#16, ⟨false, true, false, true, true⟩, 7) := by decide

/-- V100. -/
theorem test_step_rlc :
    let t := stepped ({ load [0x07#8] with a := 0xF2#8 })
    (t.a, t.pc, t.flags, t.cyc) = (0xE5#8, 0x0101#16, ⟨true, false, false, false, false⟩, 4) := by decide

/-- V104. -/
theorem test_step_rrc_a_0x01 :
    let t := stepped ({ load [0x0F#8] with a := 0x01#8 })
    (t.a, t.pc, t.flags, t.cyc) = (0x80#8, 0x0101#16, ⟨true, false, false, false, false⟩, 4) := by decide

/-- V105. -/
theorem test_step_ral_cy_0 :
    let t := stepped ({ load [0x17#8] with a := 0xB5#8 })
    (t.a, t.pc, t.flags, t.cyc) = (0x6A#8, 0x0101#16, ⟨true, false, false, false, false⟩, 4) := by decide

/-- V107. -/
theorem test_step_rar_cy_1 :
    let t := stepped ({ load [0x1F#8] with a := 0x6A#8, flags := ⟨true, false, false, false, false⟩ })
    (t.a, t.pc, t.flags, t.cyc) = (0xB5#8, 0x0101#16, ⟨false, false, false, false, false⟩, 4) := by decide

/-- V109. -/
theorem test_step_cma :
    let t := stepped ({ load [0x2F#8] with a := 0x51#8, flags := ⟨true, false, false, true, false⟩ })
    (t.a, t.pc, t.flags, t.cyc) = (0xAE#8, 0x0101#16, ⟨true, false, false, true, false⟩, 4) := by decide

/-- V111. -/
theorem test_step_cmc_0_to_1 :
    let t := stepped (load [0x3F#8])
    (t.pc, t.flags, t.cyc) = (0x0101#16, ⟨true, false, false, false, false⟩, 4) := by decide

/-- V113. -/
theorem test_step_stc_already_1 :
    let t := stepped ({ load [0x37#8] with flags := ⟨true, true, false, false, true⟩ })
    (t.pc, t.flags, t.cyc) = (0x0101#16, ⟨true, true, false, false, true⟩, 4) := by decide

/-- V115. -/
theorem test_step_jmp_0x0100_to_itself :
    let t := stepped (load [0xC3#8, 0x00#8, 0x01#8])
    (t.pc, t.cyc) = (0x0100#16, 10) := by decide

/-- V116. -/
theorem test_step_jnz_0x0110_taken :
    let t := stepped (load [0xC2#8, 0x10#8, 0x01#8])
    (t.pc, t.cyc) = (0x0110#16, 10) := by decide

/-- V125. -/
theorem test_step_jpo_0x0110_not_taken :
    let t := stepped ({ load [0xE2#8, 0x10#8, 0x01#8] with flags := ⟨false, false, false, false, true⟩ })
    (t.pc, t.cyc) = (0x0103#16, 10) := by decide

/-- V130. -/
theorem test_step_jm_0x0110_taken :
    let t := stepped ({ load [0xFA#8, 0x10#8, 0x01#8] with flags := ⟨false, false, true, false, false⟩ })
    (t.pc, t.cyc) = (0x0110#16, 10) := by decide

/-- V133. -/
theorem test_step_call_0x0200_sp_0_wraps :
    let t := stepped (load [0xCD#8, 0x00#8, 0x02#8])
    (t.sp, t.pc, t.read 0xFFFE#16, t.read 0xFFFF#16, t.cyc) = (0xFFFE#16, 0x0200#16, 0x03#8, 0x01#8, 17) := by decide

/-- V134. -/
theorem test_step_call_0x0200_sp_0x0103_pushes_over_own_operand :
    let t := stepped ({ load [0xCD#8, 0x00#8, 0x02#8] with sp := 0x0103#16 })
    (t.sp, t.pc, t.read 0x0101#16, t.read 0x0102#16, t.cyc) = (0x0101#16, 0x0200#16, 0x03#8, 0x01#8, 17) := by decide

/-- V145. -/
theorem test_step_cpe_0x0200_taken :
    let t := stepped ({ load [0xEC#8, 0x00#8, 0x02#8] with sp := 0x2400#16, flags := ⟨false, false, false, false, true⟩ })
    (t.sp, t.pc, t.read 0x23FE#16, t.read 0x23FF#16, t.cyc) = (0x23FE#16, 0x0200#16, 0x03#8, 0x01#8, 17) := by decide

/-- V140. -/
theorem test_step_cnc_0x0200_not_taken :
    let t := stepped ({ load [0xD4#8, 0x00#8, 0x02#8] with sp := 0x2400#16, flags := ⟨true, false, false, false, false⟩ })
    (t.pc, t.cyc) = (0x0103#16, 11) := by decide

/-- V152. -/
theorem test_step_ret_sp_0xffff_wraps :
    let t := stepped ({ ((load [0xC9#8]).write 0x0000#16 0x12#8).write 0xFFFF#16 0x34#8 with sp := 0xFFFF#16 })
    (t.sp, t.pc, t.cyc) = (0x0001#16, 0x1234#16, 10) := by decide

/-- V168. -/
theorem test_step_rm_not_taken :
    let t := stepped ({ ((load [0xF8#8]).write 0x23FE#16 0x03#8).write 0x23FF#16 0x02#8 with sp := 0x23FE#16 })
    (t.pc, t.cyc) = (0x0101#16, 5) := by decide

/-- V157. -/
theorem test_step_rnc_taken :
    let t := stepped ({ ((load [0xD0#8]).write 0x23FE#16 0x03#8).write 0x23FF#16 0x02#8 with sp := 0x23FE#16 })
    (t.sp, t.pc, t.cyc) = (0x2400#16, 0x0203#16, 11) := by decide

/-- V174. -/
theorem test_step_rst_5 :
    let t := stepped ({ load [0xEF#8] with sp := 0x2400#16 })
    (t.sp, t.pc, t.read 0x23FE#16, t.read 0x23FF#16, t.cyc) = (0x23FE#16, 0x0028#16, 0x01#8, 0x01#8, 11) := by decide

/-- V177. -/
theorem test_step_pchl :
    let t := stepped ({ load [0xE9#8] with h := 0x04#8, l := 0x13#8 })
    (t.pc, t.cyc) = (0x0413#16, 5) := by decide

/-- V179. -/
theorem test_step_push_d :
    let t := stepped ({ load [0xD5#8] with d := 0x01#8, e := 0x02#8, sp := 0x0001#16 })
    (t.sp, t.pc, t.read 0x0000#16, t.read 0xFFFF#16, t.cyc) = (0xFFFF#16, 0x0101#16, 0x01#8, 0x02#8, 11) := by decide

/-- V183. -/
theorem test_step_push_psw :
    let t := stepped ({ load [0xF5#8] with a := 0x1F#8, sp := 0x502A#16, flags := ⟨true, false, false, true, true⟩ })
    (t.sp, t.pc, t.read 0x5028#16, t.read 0x5029#16, t.cyc) = (0x5028#16, 0x0101#16, 0x47#8, 0x1F#8, 11) := by decide

/-- V185. -/
theorem test_step_pop_d :
    let t := stepped ({ ((load [0xD1#8]).write 0x0000#16 0x22#8).write 0xFFFF#16 0x11#8 with sp := 0xFFFF#16 })
    (t.d, t.e, t.sp, t.pc, t.cyc) = (0x22#8, 0x11#8, 0x0001#16, 0x0101#16, 10) := by decide

/-- V188. -/
theorem test_step_pop_psw_flag_byte_0xff :
    let t := stepped ({ ((load [0xF1#8]).write 0x2C00#16 0xFF#8).write 0x2C01#16 0x12#8 with sp := 0x2C00#16 })
    (t.a, t.sp, t.pc, t.flags, t.cyc) = (0x12#8, 0x2C02#16, 0x0101#16, ⟨true, true, true, true, true⟩, 10) := by decide

/-- V191. -/
theorem test_step_xthl :
    let t := stepped ({ ((load [0xE3#8]).write 0x10AD#16 0xF0#8).write 0x10AE#16 0x0D#8 with h := 0x0B#8, l := 0x3C#8, sp := 0x10AD#16 })
    (t.h, t.l, t.pc, t.read 0x10AD#16, t.read 0x10AE#16, t.cyc) = (0x0D#8, 0xF0#8, 0x0101#16, 0x3C#8, 0x0B#8, 18) := by decide

/-- V192. -/
theorem test_step_sphl :
    let t := stepped ({ load [0xF9#8] with h := 0x50#8, l := 0x6C#8 })
    (t.sp, t.pc, t.cyc) = (0x506C#16, 0x0101#16, 5) := by decide

/-- V193. -/
theorem test_step_in_0x01 :
    let t := stepped ({ load [0xDB#8, 0x01#8] with a := 0x33#8 })
    (t.pc, t.run, t.cyc) = (0x0100#16, .faulted .notImplementedIO, 0) := by decide

/-- V194. -/
theorem test_step_out_0x01 :
    let t := stepped ({ load [0xD3#8, 0x01#8] with a := 0x33#8 })
    (t.pc, t.run, t.cyc) = (0x0100#16, .faulted .notImplementedIO, 0) := by decide

/-- V195. -/
theorem test_step_ei :
    let t := stepped (load [0xFB#8])
    (t.pc, t.inte, t.cyc) = (0x0101#16, true, 4) := by decide

/-- V197. -/
theorem test_step_di :
    let t := stepped ({ load [0xF3#8] with inte := true })
    (t.pc, t.inte, t.cyc) = (0x0101#16, false, 4) := by decide

/-- V198. -/
theorem test_step_hlt :
    let t := stepped (load [0x76#8])
    (t.pc, t.run, t.cyc) = (0x0101#16, .halted, 7) := by decide

/-- V199. -/
theorem test_step_nop :
    let t := stepped (load [0x00#8])
    (t.pc, t.cyc) = (0x0101#16, 4) := by decide

/-- V200. -/
theorem test_step_undefined_0x08 :
    let t := stepped ({ load [0x08#8, 0x00#8, 0x02#8] with a := 0x11#8, sp := 0x2400#16, flags := ⟨true, false, false, false, false⟩ })
    (t.pc, t.run, t.cyc) = (0x0100#16, .faulted .undefinedOpcode, 0) := by decide

/-- V207. -/
theorem test_step_undefined_0xcb :
    let t := stepped ({ load [0xCB#8, 0x00#8, 0x02#8] with a := 0x11#8, sp := 0x2400#16, flags := ⟨true, false, false, false, false⟩ })
    (t.pc, t.run, t.cyc) = (0x0100#16, .faulted .undefinedOpcode, 0) := by decide

/-! ## The hypotheses of the statements are met -/

/-- LXI H at the top of memory: its operand bytes are at 0x0000 and 0x0001. -/
def wrapping : State := { place 0xFFFF#16 State.reset [0x21#8, 0x00#8, 0x20#8] with pc := 0xFFFF#16 }

theorem test_witness_EncodingADecodedInstructionGivesTheBytes :
    decodeBytes [0x21#8, 0x00#8, 0x20#8, 0xFF#8] = .instr (.lxiH 0x2000#16) [0xFF#8] := by decide

theorem test_witness_OpcodeFieldsNameTheOperands :
    (Operand8.mem ≠ .mem ∨ Operand8.reg .a ≠ .mem) ∧ (Operand8.reg .b ≠ .mem ∨ Operand8.mem ≠ .mem) ∧ 0 < 8 ∧ 7 < 8 := by
  decide

theorem test_witness_StepExecutesTheInstructionAtPC :
    (wrapping.run = .running ∧ ∀ k, (h : k < (encode (.lxiH 0x2000#16)).length) →
      wrapping.read (wrapping.pc + BitVec.ofNat 16 k) = (encode (.lxiH 0x2000#16))[k]) ∧
    ({ State.reset with run := .halted } : State).run ≠ .running ∧
    ({ State.reset with run := .faulted .notImplementedIO } : State).run ≠ .running ∧
    Instr.wf .undefFD = false := by decide

theorem test_witness_RunStatusFollowsTheOpcode : (load [0x76#8]).run = .running := by decide

theorem test_witness_AFaultChangesNothingButRun :
    (load [0x27#8]).run = .running ∧ ∃ t, step (load [0x27#8]) = .next t ∧ t.run = .faulted .notImplementedDAA :=
  ⟨by decide, _, rfl, by decide⟩

theorem test_witness_HaltedAndFaultedAreTerminal :
    ({ State.reset with run := .halted } : State).run ≠ .running ∧
    ({ State.reset with run := .faulted .undefinedOpcode } : State).run ≠ .running := by decide

theorem test_witness_EveryCompletingInstructionAddsItsCost :
    (∃ t, exec .rz State.reset = .next t) ∧ faultOf .rz = none ∧ taken .rz State.reset.flags = false ∧
    (∃ t, exec .rnz State.reset = .next t) ∧ faultOf .rnz = none ∧ taken .rnz State.reset.flags = true ∧
    (∃ t, exec .daa State.reset = .next t) ∧ faultOf .daa ≠ none :=
  ⟨exec_next _ _, by decide, by decide, exec_next _ _, by decide, by decide, exec_next _ _, by decide⟩

theorem test_witness_FlagsFrame :
    (∃ t, exec .inrA State.reset = .next t) ∧ writesCY .inrA = false ∧
    (∃ t, exec .dadB State.reset = .next t) ∧ writesACSZP .dadB = false :=
  ⟨exec_next _ _, by decide, exec_next _ _, by decide⟩

theorem test_witness_RegistersFrame :
    (∃ t, exec .xchg State.reset = .next t) ∧ Reg8.a ∉ destRegs .xchg ∧
    (∃ t, exec .rz State.reset = .next t) ∧ writesSP .rz State.reset.flags = false :=
  ⟨exec_next _ _, by decide, exec_next _ _, by decide⟩

theorem test_witness_MemoryFrame :
    (∃ t, exec (.shld 0xFFFF#16) State.reset = .next t) ∧ (0x0001#16 : Word) ∉ storesAt (.shld 0xFFFF#16) State.reset ∧
    (∃ t, exec .pushB State.reset = .next t) ∧ (0x0000#16 : Word) ∉ storesAt .pushB State.reset ∧
    (∃ t, exec .cmpM State.reset = .next t) ∧ (0x0000#16 : Word) ∉ storesAt .cmpM State.reset :=
  ⟨exec_next _ _, by decide, exec_next _ _, by decide, exec_next _ _, by decide⟩

theorem test_witness_ProgramCounterRule :
    (∃ t, exec (.jnz 0x0110#16) State.reset = .next t) ∧ targetOf (.jnz 0x0110#16) State.reset = some 0x0110#16 ∧
    (∃ t, exec (.jz 0x0110#16) State.reset = .next t) ∧ targetOf (.jz 0x0110#16) State.reset = none ∧
    faultOf (.jz 0x0110#16) = none ∧
    (∃ t, exec (.inPort 0#8) State.reset = .next t) ∧ faultOf (.inPort 0#8) ≠ none :=
  ⟨exec_next _ _, by decide, exec_next _ _, by decide, by decide, exec_next _ _, by decide⟩

theorem test_witness_AuxiliaryCarryIsReadOnlyByPushPSW :
    Instr.pushB ≠ .pushPSW ∧ ∃ t, exec .pushB State.reset = .next t := ⟨by decide, exec_next _ _⟩

theorem test_witness_EveryStepKeepsMemoryCanonical : (load [0x36#8, 0x42#8]).mem.wf ∧
    ∃ t, step (load [0x36#8, 0x42#8]) = .next t := ⟨by decide, step_next _⟩

theorem test_witness_CanonicalMemoriesThatReadAlikeAreEqual :
    let m := Memory.write [] 0x0010#16 0x01#8
    let m' := Memory.write (Memory.write [] 0x0010#16 0x05#8) 0x0010#16 0x01#8
    m.wf ∧ m'.wf ∧ ∀ addr : Word, m.read addr = m'.read addr :=
  ⟨by decide, by decide, fun addr => congrArg (Memory.read · addr)
    (by decide : Memory.write [] 0x0010#16 0x01#8 = Memory.write (Memory.write [] 0x0010#16 0x05#8) 0x0010#16 0x01#8)⟩

theorem test_witness_MemWriteSetsOneCellUntilItIsWrittenAgain :
    (0x0000#16 : Word) ≠ 0xFFFF#16 ∧ ∀ w ∈ [((0x0000#16 : Word), (0x05#8 : Byte))], w.1 ≠ 0xFFFF#16 :=
  ⟨by decide, by simp⟩

theorem test_witness_TwoByteAccessesAreLittleEndianAndWrap :
    (0x0001#16 : Word) ≠ 0xFFFF#16 ∧ (0x0001#16 : Word) ≠ 0xFFFF#16 + 1 := by decide

theorem test_witness_PushThenPopReturnsTheWord :
    (0x0001#16 : Word) ≠ State.reset.sp - 1 ∧ (0x0001#16 : Word) ≠ State.reset.sp - 2 := by decide

theorem test_witness_PushThenPopInstructionsRestoreThePair :
    (∃ t u, exec (.ofPush .psw) State.reset = .next t ∧ exec (.ofPop .psw) t = .next u) ∧
    StackPair.bc ≠ .psw ∧ StackPair.de ≠ .psw ∧
    ∃ t u, exec (.ofPush .bc) State.reset = .next t ∧ exec (.ofPop .de) t = .next u :=
  ⟨⟨_, _, rfl, rfl⟩, by decide, by decide, _, _, rfl, rfl⟩

/-- CALL 0x0200 at PC with RET at 0x0200; CNZ 0x0200 (Z = 0) with RNC (CY = 0) there; RST 7 with RET at 0x0038. -/
theorem test_witness_CallThenReturnResumesAfterTheCall :
    (let s := (load [0xCD#8, 0x00#8, 0x02#8]).write 0x0200#16 0xC9#8
     s.run = .running ∧ (∀ k, (h : k < (encode (.call 0x0200#16)).length) →
       s.read (s.pc + BitVec.ofNat 16 k) = (encode (.call 0x0200#16))[k]) ∧
     0x0200#16 ≠ s.sp - 1 ∧ 0x0200#16 ≠ s.sp - 2 ∧ s.read 0x0200#16 = opcodeOf .ret) ∧
    (let s := (load [0xC4#8, 0x00#8, 0x02#8]).write 0x0200#16 0xD0#8
     s.run = .running ∧ condHolds s.flags .nz = true ∧ condHolds s.flags .nc = true ∧
     (∀ k, (h : k < (encode (.ofCcc 0x0200#16 .nz)).length) →
       s.read (s.pc + BitVec.ofNat 16 k) = (encode (.ofCcc 0x0200#16 .nz))[k]) ∧
     0x0200#16 ≠ s.sp - 1 ∧ 0x0200#16 ≠ s.sp - 2 ∧ s.read 0x0200#16 = opcodeOf (.ofRcc .nc)) ∧
    (let s := (load [0xFF#8]).write 0x0038#16 0xC9#8
     s.run = .running ∧ 7 < 8 ∧ 0x0038#16 = BitVec.ofNat 16 (8 * 7) ∧
     (∀ k, (h : k < (encode (.ofRst 7)).length) → s.read (s.pc + BitVec.ofNat 16 k) = (encode (.ofRst 7))[k]) ∧
     0x0038#16 ≠ s.sp - 1 ∧ 0x0038#16 ≠ s.sp - 2 ∧ s.read 0x0038#16 = opcodeOf .ret) := by decide

/-- Addresses outside the bytes that MOV M,r, MVI M, STA, STAX, INR M, DCR M (HL, BC, DE or a16 = 0xFFFF), SHLD 0xFFFF and
XTHL (SP = 0xFFFF) store to. -/
theorem test_witness_stores_leave_another_address :
    (0x0000#16 : Word) ≠ ({ State.reset with h := 0xFF#8, l := 0xFF#8 } : State).pair .hl ∧
    (0x0000#16 : Word) ≠ ({ State.reset with b := 0xFF#8, c := 0xFF#8 } : State).pair .bc ∧
    (0x0000#16 : Word) ≠ ({ State.reset with d := 0xFF#8, e := 0xFF#8 } : State).pair .de ∧
    (0x0001#16 : Word) ≠ 0xFFFF#16 ∧ (0x0001#16 : Word) ≠ 0xFFFF#16 + 1 := by decide

theorem test_witness_ExchangesOfHL :
    ∃ t u, exec .xchg State.reset = .next t ∧ exec .xchg t = .next u := ⟨_, _, rfl, rfl⟩

theorem test_witness_CompareSetsTheFlagsOfSubtraction :
    ∃ t, exec (.ofAlu .cmp .mem) State.reset = .next t := ⟨_, rfl⟩

theorem test_witness_ComplementAndCarryInstructions :
    ∃ t u, exec .stc State.reset = .next t ∧ exec .cmc t = .next u := ⟨_, _, rfl, rfl⟩

theorem test_witness_LogicalOperations_and_RotatesOfTheAccumulator : 0 < 8 ∧ 7 < 8 ∧ 0 < 7 ∧ 6 < 7 := by decide

theorem test_witness_ConditionsReadOneFlag :
    Cond.c ∉ [Cond.nz, .z] ∧ Cond.z ∉ [Cond.nc, .c] ∧ Cond.p ∉ [Cond.po, .pe] ∧ Cond.pe ∉ [Cond.p, .m] := by decide

theorem test_witness_CallsAndConditionalCalls :
    condHolds State.reset.flags .nz = true ∧ condHolds State.reset.flags .z = false := by decide

theorem test_witness_Restarts : 0 < 8 ∧ 7 < 8 := by decide

end Sys2Proof.Tests
end

/-! PROOF. The encoding of each family of instructions by the codes of its operands (30_encoding sections 1 to 3), which
settles O4, and the opcode byte of a decoded instruction. -/

namespace Sys2Proof

/-! ## The encoding of each family -/

/-- 01 ddd sss (R140 to R142); `MOV M,M` is left out, its byte is HLT's (R68). -/
theorem encode_ofMov (dst src : Operand8) (h : dst ≠ .mem ∨ src ≠ .mem) :
    encode (.ofMov dst src) = [BitVec.ofNat 8 (0b01000000 + 8 * dst.code + src.code)] := by
  rcases dst with (_ | _ | _ | _ | _ | _ | _) | _
  case mem =>
    rcases src with (_ | _ | _ | _ | _ | _ | _) | _
    case mem => simp at h
    all_goals rfl
  all_goals rcases src with (_ | _ | _ | _ | _ | _ | _) | _ <;> rfl

/-- 00 ddd 110 (R143, R144). -/
theorem encode_ofMvi (v : Byte) (dst : Operand8) :
    encode (.ofMvi v dst) = [BitVec.ofNat 8 (0b00000110 + 8 * dst.code), v] := by
  rcases dst with (_ | _ | _ | _ | _ | _ | _) | _ <;> rfl

/-- 00 ddd 100 (R172, R173). -/
theorem encode_ofInr (dst : Operand8) : encode (.ofInr dst) = [BitVec.ofNat 8 (0b00000100 + 8 * dst.code)] := by
  rcases dst with (_ | _ | _ | _ | _ | _ | _) | _ <;> rfl

/-- 00 ddd 101 (R174, R175). -/
theorem encode_ofDcr (dst : Operand8) : encode (.ofDcr dst) = [BitVec.ofNat 8 (0b00000101 + 8 * dst.code)] := by
  rcases dst with (_ | _ | _ | _ | _ | _ | _) | _ <;> rfl

/-- 10 alu sss (R65). -/
theorem encode_ofAlu (o : AluOp) (src : Operand8) :
    encode (.ofAlu o src) = [BitVec.ofNat 8 (0b10000000 + 8 * o.code + src.code)] := by
  cases o <;> rcases src with (_ | _ | _ | _ | _ | _ | _) | _ <;> rfl

/-- 11 alu 110 (R65). -/
theorem encode_ofAluImm (v : Byte) (o : AluOp) :
    encode (.ofAluImm v o) = [BitVec.ofNat 8 (0b11000110 + 8 * o.code), v] := by cases o <;> rfl

/-- 00 rp 0 001 (R145). -/
theorem encode_ofLxi (v : Word) (p : RegPair) :
    encode (.ofLxi v p) = [BitVec.ofNat 8 (0b00000001 + 16 * p.code), loByte v, hiByte v] := by cases p <;> rfl

/-- 00 rp 0 011 (R176). -/
theorem encode_ofInx (p : RegPair) : encode (.ofInx p) = [BitVec.ofNat 8 (0b00000011 + 16 * p.code)] := by
  cases p <;> rfl

/-- 00 rp 1 011 (R177). -/
theorem encode_ofDcx (p : RegPair) : encode (.ofDcx p) = [BitVec.ofNat 8 (0b00001011 + 16 * p.code)] := by
  cases p <;> rfl

/-- 00 rp 1 001 (R178). -/
theorem encode_ofDad (p : RegPair) : encode (.ofDad p) = [BitVec.ofNat 8 (0b00001001 + 16 * p.code)] := by
  cases p <;> rfl

/-- 11 rp 0 101 (R240, R241). -/
theorem encode_ofPush (p : StackPair) : encode (.ofPush p) = [BitVec.ofNat 8 (0b11000101 + 16 * p.code)] := by
  cases p <;> rfl

/-- 11 rp 0 001 (R242, R243). -/
theorem encode_ofPop (p : StackPair) : encode (.ofPop p) = [BitVec.ofNat 8 (0b11000001 + 16 * p.code)] := by
  cases p <;> rfl

/-- 11 ccc 010 (R221). -/
theorem encode_ofJcc (v : Word) (cond : Cond) :
    encode (.ofJcc v cond) = [BitVec.ofNat 8 (0b11000010 + 8 * cond.code), loByte v, hiByte v] := by cases cond <;> rfl

/-- 11 ccc 100 (R223). -/
theorem encode_ofCcc (v : Word) (cond : Cond) :
    encode (.ofCcc v cond) = [BitVec.ofNat 8 (0b11000100 + 8 * cond.code), loByte v, hiByte v] := by cases cond <;> rfl

/-- 11 ccc 000 (R225). -/
theorem encode_ofRcc (cond : Cond) : encode (.ofRcc cond) = [BitVec.ofNat 8 (0b11000000 + 8 * cond.code)] := by
  cases cond <;> rfl

/-- 11 nnn 111 (R226). -/
theorem encode_ofRst (n : Nat) (h : n < 8) : encode (.ofRst n) = [BitVec.ofNat 8 (0b11000111 + 8 * n)] := by
  interval_cases n <;> rfl

/-- Settles O4: one lemma for the encoding of each family. -/
theorem opcodeFieldsNameTheOperands : Obligations.OpcodeFieldsNameTheOperands :=
  ⟨encode_ofMov, encode_ofMvi, encode_ofInr, encode_ofDcr, encode_ofAlu, encode_ofAluImm, encode_ofLxi, encode_ofInx,
    encode_ofDcx, encode_ofDad, encode_ofPush, encode_ofPop, encode_ofJcc, encode_ofCcc, encode_ofRcc, encode_ofRst⟩

/-! ## The opcode byte of a decoded instruction -/

/-- The decoder keeps the opcode byte: no two bytes select the same instruction (R62, R70). -/
theorem opcodeOf_decode (op b2 b3 : Byte) : opcodeOf (decode op b2 b3) = op := by
  refine Byte.forall_of_ofNat (P := fun op => opcodeOf (decode op b2 b3) = op) (fun n hn => ?_) op
  interval_cases n <;> rfl

end Sys2Proof

/-! PROOF. The registers and the pair views (10_state section 2), which settles O25. -/

namespace Sys2Proof

/-- The code of a pair selects that pair (R13). -/
@[simp] theorem RegPair.ofCode_code (p : RegPair) : RegPair.ofCode p.code = p := by cases p <;> rfl

end Sys2Proof

namespace Sys2Proof.Machine

theorem State.setPair_bc (s : State) (v : Word) : s.setPair .bc v = { s with b := hiByte v, c := loByte v } := rfl
theorem State.setPair_de (s : State) (v : Word) : s.setPair .de v = { s with d := hiByte v, e := loByte v } := rfl
theorem State.setPair_hl (s : State) (v : Word) : s.setPair .hl v = { s with h := hiByte v, l := loByte v } := rfl
theorem State.setPair_sp (s : State) (v : Word) : s.setPair .sp v = { s with sp := v } := rfl

/-- A pair reads back what was written to it: its two registers hold the two bytes of the word (R13). -/
theorem State.pair_setPair_same (s : State) (p : RegPair) (v : Word) : (s.setPair p v).pair p = v := by
  cases p
  case sp => rfl
  all_goals exact word16_hiByte_loByte v

/-- Writing a register changes nothing but the registers (R10). -/
theorem State.setReg_frame (s : State) (r : Reg8) (v : Byte) :
    (s.setReg r v).sp = s.sp ∧ (s.setReg r v).pc = s.pc ∧ (s.setReg r v).flags = s.flags ∧
      (s.setReg r v).inte = s.inte ∧ (s.setReg r v).run = s.run ∧ (s.setReg r v).cyc = s.cyc ∧
      (s.setReg r v).mem = s.mem := by simp

/-- Settles O25: the rules for writing a register and for splitting a word into its two bytes. -/
theorem registersAreIndependentAndPairsAreViews : Obligations.RegistersAreIndependentAndPairsAreViews :=
  ⟨State.reg_setReg, State.setReg_frame,
    fun s => ⟨toNat_word16 s.b s.c, toNat_word16 s.d s.e, toNat_word16 s.h s.l, rfl⟩,
    fun s v => ⟨s.setPair_bc v, s.setPair_de v, s.setPair_hl v, s.setPair_sp v, toNat_hiByte v, toNat_loByte v⟩,
    State.pair_setPair_same, RegPair.ofCode_code, rfl, rfl⟩

end Sys2Proof.Machine

/-! PROOF. Nothing but EI and DI writes INTE and nothing reads it (R18, R262), which settles O11. Every operation of the state
commutes with setting INTE, so every shared operation does, so every instruction but EI and DI does; the fetch does not
see INTE. -/

namespace Sys2Proof.Machine

/-! ## Reading the state does not see INTE -/

@[simp] theorem State.pair_setINTE (s : State) (b : Bool) (p : RegPair) : (s.setINTE b).pair p = s.pair p := by
  cases p <;> rfl
@[simp] theorem State.hl_setINTE (s : State) (b : Bool) : (s.setINTE b).hl = s.hl := rfl
@[simp] theorem State.readOp8_setINTE (s : State) (b : Bool) (o : Operand8) :
    (s.setINTE b).readOp8 o = s.readOp8 o := by
  cases o with
  | reg r => exact s.reg_setINTE b r
  | mem => rfl
@[simp] theorem State.stackPair_setINTE (s : State) (b : Bool) (p : StackPair) :
    (s.setINTE b).stackPair p = s.stackPair p := by cases p <;> rfl
@[simp] theorem State.stackTop_setINTE (s : State) (b : Bool) : (s.setINTE b).stackTop = s.stackTop := rfl
@[simp] theorem State.next_setINTE (s : State) (b : Bool) (op : Byte) : (s.setINTE b).next op = s.next op := rfl
@[simp] theorem State.fetch_setINTE (s : State) (b : Bool) : (s.setINTE b).fetch = s.fetch := rfl

/-! ## Updating the state commutes with setting INTE -/

@[simp] theorem State.setPC_setINTE (s : State) (b : Bool) (v : Word) :
    (s.setINTE b).setPC v = (s.setPC v).setINTE b := rfl
@[simp] theorem State.setFlags_setINTE (s : State) (b : Bool) (f : Flags) :
    (s.setINTE b).setFlags f = (s.setFlags f).setINTE b := rfl
@[simp] theorem State.charge_setINTE (s : State) (b : Bool) (op : Byte) (taken : Bool) :
    (s.setINTE b).charge op taken = (s.charge op taken).setINTE b := rfl
@[simp] theorem State.advance_setINTE (s : State) (b : Bool) (op : Byte) :
    (s.setINTE b).advance op = (s.advance op).setINTE b := rfl
@[simp] theorem State.raiseFault_setINTE (s : State) (b : Bool) (cause : Fault) :
    (s.setINTE b).raiseFault cause = (s.raiseFault cause).setINTE b := rfl
@[simp] theorem State.push16_setINTE (s : State) (b : Bool) (v : Word) :
    (s.setINTE b).push16 v = (s.push16 v).setINTE b := rfl
@[simp] theorem State.dropTop_setINTE (s : State) (b : Bool) : (s.setINTE b).dropTop = s.dropTop.setINTE b := rfl
@[simp] theorem State.setReg_setINTE (s : State) (b : Bool) (r : Reg8) (v : Byte) :
    (s.setINTE b).setReg r v = (s.setReg r v).setINTE b := by cases r <;> rfl
@[simp] theorem State.setPair_setINTE (s : State) (b : Bool) (p : RegPair) (v : Word) :
    (s.setINTE b).setPair p v = (s.setPair p v).setINTE b := by cases p <;> rfl
@[simp] theorem State.setStackPair_setINTE (s : State) (b : Bool) (p : StackPair) (v : Word) :
    (s.setINTE b).setStackPair p v = (s.setStackPair p v).setINTE b := by cases p <;> rfl
@[simp] theorem State.writeOp8_setINTE (s : State) (b : Bool) (o : Operand8) (v : Byte) :
    (s.setINTE b).writeOp8 o v = (s.writeOp8 o v).setINTE b := by
  cases o with
  | reg r => exact s.setReg_setINTE b r v
  | mem => rfl

/-! ## The shared operations ignore INTE -/

/-- An operation that neither reads nor writes INTE: it commutes with setting it. -/
def IgnoresINTE (f : State → State) : Prop := ∀ (s : State) (b : Bool), f (s.setINTE b) = (f s).setINTE b

theorem ignoresINTE_mov (op : Byte) (dst src : Operand8) : IgnoresINTE (mov op dst src) := fun s b => by simp [mov]
theorem ignoresINTE_moveImm (op : Byte) (dst : Operand8) (v : Byte) : IgnoresINTE (moveImm op dst v) :=
  fun s b => by simp [moveImm]
theorem ignoresINTE_loadPairImm (op : Byte) (p : RegPair) (v : Word) : IgnoresINTE (loadPairImm op p v) :=
  fun s b => by simp [loadPairImm]
theorem ignoresINTE_exchangeHLDE (op : Byte) : IgnoresINTE (exchangeHLDE op) := fun s b => by simp [exchangeHLDE]
theorem ignoresINTE_increment (op : Byte) (dst : Operand8) : IgnoresINTE (increment op dst) :=
  fun s b => by simp [increment, writeOperand]
theorem ignoresINTE_decrement (op : Byte) (dst : Operand8) : IgnoresINTE (decrement op dst) :=
  fun s b => by simp [decrement, writeOperand]
theorem ignoresINTE_incrementPair (op : Byte) (p : RegPair) : IgnoresINTE (incrementPair op p) :=
  fun s b => by simp [incrementPair]
theorem ignoresINTE_decrementPair (op : Byte) (p : RegPair) : IgnoresINTE (decrementPair op p) :=
  fun s b => by simp [decrementPair]
theorem ignoresINTE_addPair (op : Byte) (p : RegPair) : IgnoresINTE (addPair op p) := fun s b => by simp [addPair]
theorem ignoresINTE_push (op : Byte) (p : StackPair) : IgnoresINTE (push op p) := fun s b => by simp [push]
theorem ignoresINTE_pop (op : Byte) (p : StackPair) : IgnoresINTE (pop op p) := fun s b => by simp [pop]
theorem ignoresINTE_aluA (o : AluOp) (op v : Byte) : IgnoresINTE (aluA o op v) := fun s b => by cases o <;> rfl

/-- Jcc tests flags only, and neither outcome touches INTE (R221). -/
theorem ignoresINTE_jumpIf (op : Byte) (cond : Cond) (target : Word) : IgnoresINTE (jumpIf op cond target) := fun s b => by
  cases h : condHolds s.flags cond <;> simp [jumpIf, h]

/-- Ccc, likewise (R223). -/
theorem ignoresINTE_callIf (op : Byte) (cond : Cond) (target : Word) : IgnoresINTE (callIf op cond target) := fun s b => by
  cases h : condHolds s.flags cond <;> simp [callIf, h]

/-- Rcc, likewise (R225). -/
theorem ignoresINTE_returnIf (op : Byte) (cond : Cond) : IgnoresINTE (returnIf op cond) := fun s b => by
  cases h : condHolds s.flags cond <;> simp [returnIf, h]

/-! ## The instructions -/

/-- EI and DI are the only instructions that touch INTE: the execution of any other is an operation that ignores it, family by
family (R248, R249, R262). -/
theorem exec_ignoresINTE (i : Instr) (hei : i ≠ .ei) (hdi : i ≠ .di) :
    ∃ f, IgnoresINTE f ∧ ∀ s, exec i s = .next (f s) := by
  induction i using family_cases with
  | mov dst src h => exact ⟨_, ignoresINTE_mov _ dst src, fun s => exec_ofMov dst src s h⟩
  | mvi v dst => exact ⟨_, ignoresINTE_moveImm _ dst v, exec_ofMvi v dst⟩
  | inr dst => exact ⟨_, ignoresINTE_increment _ dst, exec_ofInr dst⟩
  | dcr dst => exact ⟨_, ignoresINTE_decrement _ dst, exec_ofDcr dst⟩
  | alu o src =>
    refine ⟨_, fun s b => ?_, exec_ofAlu o src⟩
    rw [State.readOp8_setINTE, ignoresINTE_aluA]
  | aluImm v o => exact ⟨_, ignoresINTE_aluA o _ v, exec_ofAluImm v o⟩
  | lxi v p => exact ⟨_, ignoresINTE_loadPairImm _ p v, exec_ofLxi v p⟩
  | inx p => exact ⟨_, ignoresINTE_incrementPair _ p, exec_ofInx p⟩
  | dcx p => exact ⟨_, ignoresINTE_decrementPair _ p, exec_ofDcx p⟩
  | dad p => exact ⟨_, ignoresINTE_addPair _ p, exec_ofDad p⟩
  | push p => exact ⟨_, ignoresINTE_push _ p, exec_ofPush p⟩
  | pop p => exact ⟨_, ignoresINTE_pop _ p, exec_ofPop p⟩
  | jcc v cond => exact ⟨_, ignoresINTE_jumpIf _ cond v, exec_ofJcc v cond⟩
  | ccc v cond => exact ⟨_, ignoresINTE_callIf _ cond v, exec_ofCcc v cond⟩
  | rcc cond => exact ⟨_, ignoresINTE_returnIf _ cond, exec_ofRcc cond⟩
  | rst n h => exact ⟨_, fun _ _ => rfl, fun s => exec_ofRst s h⟩
  | xchg => exact ⟨_, ignoresINTE_exchangeHLDE _, exec_xchg⟩
  | fault i cause h => exact ⟨_, fun s b => s.raiseFault_setINTE b cause, exec_of_faultOf h⟩
  | ei => exact absurd rfl hei
  | di => exact absurd rfl hdi
  | nop => exact ⟨_, fun _ _ => rfl, exec_nop⟩
  | staxB => exact ⟨_, fun _ _ => rfl, exec_staxB⟩
  | rlc => exact ⟨_, fun _ _ => rfl, exec_rlc⟩
  | ldaxB => exact ⟨_, fun _ _ => rfl, exec_ldaxB⟩
  | rrc => exact ⟨_, fun _ _ => rfl, exec_rrc⟩
  | staxD => exact ⟨_, fun _ _ => rfl, exec_staxD⟩
  | ral => exact ⟨_, fun _ _ => rfl, exec_ral⟩
  | ldaxD => exact ⟨_, fun _ _ => rfl, exec_ldaxD⟩
  | rar => exact ⟨_, fun _ _ => rfl, exec_rar⟩
  | shld v => exact ⟨_, fun _ _ => rfl, exec_shld v⟩
  | lhld v => exact ⟨_, fun _ _ => rfl, exec_lhld v⟩
  | cma => exact ⟨_, fun _ _ => rfl, exec_cma⟩
  | sta v => exact ⟨_, fun _ _ => rfl, exec_sta v⟩
  | stc => exact ⟨_, fun _ _ => rfl, exec_stc⟩
  | lda v => exact ⟨_, fun _ _ => rfl, exec_lda v⟩
  | cmc => exact ⟨_, fun _ _ => rfl, exec_cmc⟩
  | hlt => exact ⟨_, fun _ _ => rfl, exec_hlt⟩
  | jmp v => exact ⟨_, fun _ _ => rfl, exec_jmp v⟩
  | ret => exact ⟨_, fun _ _ => rfl, exec_ret⟩
  | call v => exact ⟨_, fun _ _ => rfl, exec_call v⟩
  | xthl => exact ⟨_, fun _ _ => rfl, exec_xthl⟩
  | pchl => exact ⟨_, fun _ _ => rfl, exec_pchl⟩
  | sphl => exact ⟨_, fun _ _ => rfl, exec_sphl⟩

/-- The execution of an instruction from a state with another INTE: EI sets it, DI clears it, every other instruction keeps
it, and nothing else differs. -/
theorem exec_setINTE (i : Instr) (s : State) (b : Bool) : ∃ t, exec i s = .next t ∧
    exec i (s.setINTE b) = .next (t.setINTE (if i = .ei then true else if i = .di then false else b)) := by
  by_cases hei : i = .ei
  · subst hei
    exact ⟨_, exec_ei s, exec_ei (s.setINTE b)⟩
  · by_cases hdi : i = .di
    · subst hdi
      exact ⟨_, exec_di s, exec_di (s.setINTE b)⟩
    · obtain ⟨f, hf, hexec⟩ := exec_ignoresINTE i hei hdi
      refine ⟨f s, hexec s, ?_⟩
      rw [hexec, hf, if_neg hei, if_neg hdi]

/-! ## The step -/

/-- The opcode byte of the fetched instruction is the byte at PC (R260). -/
theorem opcodeOf_fetch (s : State) : opcodeOf s.fetch = s.read s.pc := opcodeOf_decode _ _ _

theorem fetch_eq_ei_iff (s : State) : s.fetch = .ei ↔ s.read s.pc = 0xFB#8 :=
  ⟨fun h => by rw [← opcodeOf_fetch, h]; rfl, fun h => by rw [State.fetch, h]; rfl⟩

theorem fetch_eq_di_iff (s : State) : s.fetch = .di ↔ s.read s.pc = 0xF3#8 :=
  ⟨fun h => by rw [← opcodeOf_fetch, h]; rfl, fun h => by rw [State.fetch, h]; rfl⟩

/-- A core that is not Running takes no step (R260, R267; log entry 5). -/
theorem step_not_running {s : State} (h : s.run ≠ .running) : step s = .next s := by
  cases hr : s.run <;> simp_all [step]

/-- A step from a state with another INTE: only a Running core with EI or DI at PC writes INTE, and nothing else differs. -/
theorem step_setINTE (s : State) (b : Bool) : ∃ t, step s = .next t ∧
    step (s.setINTE b) = .next (t.setINTE (if s.run = .running ∧ s.read s.pc = 0xFB#8 then true
      else if s.run = .running ∧ s.read s.pc = 0xF3#8 then false else b)) := by
  by_cases hr : s.run = .running
  · obtain ⟨t, ht, ht'⟩ := exec_setINTE s.fetch s b
    refine ⟨t, by rw [step_running hr, ht], ?_⟩
    rw [step_running (by exact hr), State.fetch_setINTE, ht']
    simp only [hr, true_and, fetch_eq_ei_iff, fetch_eq_di_iff]
  · refine ⟨s, step_not_running hr, ?_⟩
    rw [step_not_running (by exact hr)]
    simp [hr]

/-- Settles O11: the step and the execution from a state with another INTE. -/
theorem inteIsWrittenByEiAndDiAndReadByNothing : Obligations.InteIsWrittenByEiAndDiAndReadByNothing :=
  ⟨step_setINTE, exec_setINTE⟩

end Sys2Proof.Machine

/-! PROOF. A memory write sets one cell, which keeps its value until it is written again (20_memory section 1, R42), which
settles O23. -/

namespace Sys2Proof.Machine

/-- A write is seen at its own address. -/
theorem State.read_write_same (s : State) (addr : Word) (v : Byte) : (s.write addr v).read addr = v :=
  (s.read_write addr addr v).trans (if_pos rfl)

/-- A write is seen at no other address. -/
theorem State.read_write_of_ne (s : State) {addr x : Word} (v : Byte) (h : x ≠ addr) :
    (s.write addr v).read x = s.read x :=
  (s.read_write addr x v).trans (if_neg h)

/-- A sequence of writes to other addresses leaves the byte at an address as it was. -/
theorem State.read_foldl_write_of_ne (ws : List (Word × Byte)) (s : State) {addr : Word} (h : ∀ w ∈ ws, w.1 ≠ addr) :
    (ws.foldl (fun t w => t.write w.1 w.2) s).read addr = s.read addr := by
  induction ws generalizing s with
  | nil => rfl
  | cons w ws ih =>
    obtain ⟨hw, hws⟩ := List.forall_mem_cons.1 h
    rw [List.foldl_cons, ih _ hws, s.read_write_of_ne _ hw.symm]

/-- Settles O23: the write is read back at once, and the later writes leave that byte as it was. -/
theorem memWriteSetsOneCellUntilItIsWrittenAgain : Obligations.MemWriteSetsOneCellUntilItIsWrittenAgain :=
  fun s addr v =>
    ⟨rfl, fun _ => s.read_write_of_ne v,
      fun later h => (State.read_foldl_write_of_ne later _ h).trans (s.read_write_same addr v)⟩

end Sys2Proof.Machine

/-! PROOF. The decoder takes the bytes of MVI, INR and LXI, for every operand, and leaves the bytes after them (30_encoding
sections 1 to 3); the seven words of R77 are instances, which settles O1. -/

namespace Sys2Proof

/-- 00 ddd 110 with its immediate byte (R63). -/
theorem decodeBytes_encode_ofMvi (v : Byte) (dst : Operand8) (rest : List Byte) :
    decodeBytes (encode (.ofMvi v dst) ++ rest) = .instr (.ofMvi v dst) rest := by
  rcases dst with (_ | _ | _ | _ | _ | _ | _) | _ <;> rfl

/-- 00 ddd 100 has no operand byte. -/
theorem decodeBytes_encode_ofInr (dst : Operand8) (rest : List Byte) :
    decodeBytes (encode (.ofInr dst) ++ rest) = .instr (.ofInr dst) rest := by
  rcases dst with (_ | _ | _ | _ | _ | _ | _) | _ <;> rfl

/-- 00 rp 0 001 with its word, low byte first (R64): the two bytes put together are the word again. -/
theorem decodeBytes_encode_ofLxi (v : Word) (p : RegPair) (rest : List Byte) :
    decodeBytes (encode (.ofLxi v p) ++ rest) = .instr (.ofLxi v p) rest := by
  have decoded : decodeBytes (encode (.ofLxi v p) ++ rest) = .instr (.ofLxi (word16 (hiByte v) (loByte v)) p) rest := by
    cases p <;> rfl
  rw [decoded, word16_hiByte_loByte]

/-- The encoding of a conditional jump is the opcode and the two bytes of the address (R74). -/
theorem length_encode_ofJcc (a16 : Word) (cond : Cond) : (encode (.ofJcc a16 cond)).length = 3 := by
  rw [encode_ofJcc]; rfl

/-- Settles O1: each word is the encoding of its instruction, followed by the byte that is left over. -/
theorem decodesTheWordsOfTheSpec : Obligations.DecodesTheWordsOfTheSpec :=
  ⟨decodeBytes_encode_ofMvi 0x05#8 (.reg .a) [0xFF#8],
    decodeBytes_encode_ofInr (.reg .a) [0xFF#8],
    rfl,
    decodeBytes_encode_ofMvi 0xFF#8 (.reg .b) [0xFF#8],
    decodeBytes_encode_ofInr (.reg .b) [0xFF#8],
    decodeBytes_encode_ofLxi 0x2000#16 .hl [0xFF#8],
    decodeBytes_encode_ofMvi 0x42#8 .mem [0xFF#8],
    fun a16 cond => ⟨Machine.opcodeLength_ofJcc a16 cond, length_encode_ofJcc a16 cond⟩⟩

end Sys2Proof

/-! PROOF. The flag unit in numbers (40_alu_flags sections 1 to 4): Z, S and P of a result byte, which settles O38, the result
and the flags of subtraction, increment and decrement, and the laws of R106, which settle O59. -/

namespace Sys2Proof.Machine
open Sys2Proof.Claims

/-! ## The flags of a result byte -/

/-- The sum of the eight bits is the number of those that are set (R92). -/
theorem bitSum_eq_length_filter (v : Byte) : bitSum v = ((List.range 8).filter fun k => v.getLsbD k).length := by
  have count (b : Bool) : b.toNat = if b then 1 else 0 := by cases b <;> rfl
  rw [← List.countP_eq_length_filter]
  simp [bitSum, List.range_succ, List.countP_cons, count]

/-- Bit 7 says that the byte is 128 or more (R90). -/
theorem bit7_eq_decide (v : Byte) : v[7] = decide (128 ≤ v.toNat) := by
  rw [← BitVec.getLsbD_eq_getElem, ← BitVec.msb_eq_decide v]
  rfl

/-- `zsp` computes the three flags of its result byte, whatever CY and AC become (R90 to R93). -/
theorem zsp_with_cy_ac (v : Byte) (f : Flags) (cy ac : Bool) :
    { zsp v f with cy := cy, ac := ac } = resultFlags v cy ac := by
  have hz : (v == 0x00#8) = decide (v.toNat = 0) := by
    rw [Bool.eq_iff_iff, beq_iff_eq, decide_eq_true_iff, BitVec.toNat_eq]
    rfl
  have hp : parity v = decide (((List.range 8).filter fun k => v.getLsbD k).length % 2 = 0) := by
    rw [parity, bitSum_eq_length_filter]
    rfl
  simp only [zsp, resultFlags, bit7_eq_decide, hz, hp]

/-- `zsp` keeps CY and AC (R93). -/
theorem zsp_eq_resultFlags (v : Byte) (f : Flags) : zsp v f = resultFlags v f.cy f.ac := zsp_with_cy_ac v f f.cy f.ac

/-- Settles O38: the flags that `zsp` computes are decisions of the three conditions. -/
theorem zspOfAResultByte : Obligations.ZspOfAResultByte := fun v f => by
  rw [zsp_eq_resultFlags]
  exact ⟨decide_eq_true_iff, decide_eq_true_iff, decide_eq_true_iff⟩

/-! ## The primitives -/

/-- The low nibble as a remainder. -/
theorem toNat_and_lowNibble (v : Byte) : (v &&& 0x0F#8).toNat = v.toNat % 16 := by
  simpa using Nat.and_two_pow_sub_one_eq_mod v.toNat 4

/-- The byte that a subtraction returns is the difference of the integers, modulo 256 (R96). -/
theorem sub_sub_eq_ofInt (a b : Byte) (n : Nat) :
    a - b - BitVec.ofNat 8 n = BitVec.ofInt 8 ((a.toNat : Int) - b.toNat - n) := by
  apply BitVec.eq_of_toNat_eq
  simp only [BitVec.toNat_sub, BitVec.toNat_ofNat, BitVec.toNat_ofInt]
  have := a.isLt
  have := b.isLt
  omega

/-- Subtraction (R96). -/
theorem sub8_eq_resultFlags (a b : Byte) (bin : Bool) (f : Flags) :
    sub8 a b bin f = (BitVec.ofInt 8 ((a.toNat : Int) - b.toNat - bin.toNat),
      resultFlags (BitVec.ofInt 8 ((a.toNat : Int) - b.toNat - bin.toNat)) (decide (a.toNat < b.toNat + bin.toNat))
        (decide (b.toNat % 16 + bin.toNat ≤ a.toNat % 16))) := by
  rw [← sub_sub_eq_ofInt, ← sub8_ac a b bin f, ← zsp_with_cy_ac _ f]
  rfl

/-- Increment: CY stays (R98). -/
theorem inc8_eq_resultFlags (v : Byte) (f : Flags) :
    inc8 v f = (BitVec.ofNat 8 (v.toNat + 1),
      resultFlags (BitVec.ofNat 8 (v.toNat + 1)) f.cy (decide (v.toNat % 16 = 15))) := by
  have hres : BitVec.ofNat 8 (v.toNat + 1) = v + 1#8 := by bv_omega
  have hac : decide (v.toNat % 16 = 15) = ((v &&& 0x0F#8) == 0x0F#8) := by
    rw [Bool.eq_iff_iff, beq_iff_eq, decide_eq_true_iff, BitVec.toNat_eq, toNat_and_lowNibble]
    rfl
  rw [hres, hac, ← zsp_with_cy_ac _ f]
  rfl

/-- Decrement: CY stays (R99). -/
theorem dec8_eq_resultFlags (v : Byte) (f : Flags) :
    dec8 v f = (BitVec.ofNat 8 (v.toNat + 255),
      resultFlags (BitVec.ofNat 8 (v.toNat + 255)) f.cy (decide (v.toNat % 16 ≠ 0))) := by
  have hres : BitVec.ofNat 8 (v.toNat + 255) = v - 1#8 := by bv_omega
  have hac : decide (v.toNat % 16 ≠ 0) = ((v &&& 0x0F#8) != 0x00#8) := by
    rw [Bool.eq_iff_iff, bne_iff_ne, decide_eq_true_iff, Ne, Ne, BitVec.toNat_eq, toNat_and_lowNibble]
    rfl
  rw [hres, hac, ← zsp_with_cy_ac _ f]
  rfl

/-- Without a borrow-in, Z of a subtraction says that the operands are equal (R96, R97). -/
theorem z_sub8_iff (a b : Byte) (f : Flags) : (sub8 a b false f).2.z = true ↔ a = b := by
  simp only [sub8_eq, Bool.toNat_false, beq_iff_eq, BitVec.sub_zero]
  exact sub_eq_zero

/-- Without a borrow-in, CY of a subtraction says that the first operand is less, unsigned (R96, R97). -/
theorem cy_sub8_iff (a b : Byte) (f : Flags) : (sub8 a b false f).2.cy = true ↔ a.toNat < b.toNat := decide_eq_true_iff

/-! ## The laws of R106 -/

/-- Without a carry-in, CY of an addition says that the sum exceeds a byte (R106, law 1). -/
theorem cy_add8_iff (a b : Byte) (f : Flags) : (add8 a b false f).2.cy = true ↔ 255 < a.toNat + b.toNat :=
  decide_eq_true_iff

/-- Without a carry-in, an addition returns the sum modulo 256 (R106, law 1). -/
theorem toNat_add8 (a b : Byte) (f : Flags) : (add8 a b false f).1.toNat = (a.toNat + b.toNat) % 256 :=
  BitVec.toNat_ofNat _ _

/-- A primitive's result and flags, where Z and P are those of `zsp` (R106, law 2). -/
theorem z_p_iff_of_zsp {r : Byte × Flags} {f : Flags} (h : r.2.z = (zsp r.1 f).z ∧ r.2.p = (zsp r.1 f).p) :
    (r.2.z = true ↔ r.1.toNat = 0) ∧
      (r.2.p = true ↔ ((List.range 8).filter fun k => r.1.getLsbD k).length % 2 = 0) := by
  obtain ⟨hz, hp⟩ := h
  obtain ⟨z, _, p⟩ := zspOfAResultByte r.1 f
  exact ⟨hz ▸ z, hp ▸ p⟩

/-- Settles O59: addition in numbers, the seven 8-bit primitives that take Z and P from `zsp`, and the flags that `inc8`, `dec8`
and `add16` copy. -/
theorem lawsOfTheFlagUnit : Obligations.LawsOfTheFlagUnit := by
  refine ⟨fun a b f => ⟨cy_add8_iff a b f, toNat_add8 a b f⟩, fun a b cin f => ⟨?_, rfl⟩, fun _ _ => ⟨rfl, rfl⟩,
    fun _ _ _ => ⟨rfl, rfl, rfl, rfl⟩⟩
  have fromZsp : ∀ r ∈ [add8 a b cin f, sub8 a b cin f, inc8 a f, dec8 a f, and8 a b f, xor8 a b f, or8 a b f],
      r.2.z = (zsp r.1 f).z ∧ r.2.p = (zsp r.1 f).p := by
    simp only [List.forall_mem_cons]
    exact ⟨⟨rfl, rfl⟩, ⟨rfl, rfl⟩, ⟨rfl, rfl⟩, ⟨rfl, rfl⟩, ⟨rfl, rfl⟩, ⟨rfl, rfl⟩, ⟨rfl, rfl⟩, List.forall_mem_nil _⟩
  exact fun r hr => z_p_iff_of_zsp (fromZsp r hr)

end Sys2Proof.Machine

/-! PROOF. Subtract and compare (43_arithmetic section 2, 44_logical section 2), which settle O40 and O41. -/

namespace Sys2Proof.Machine
open Sys2Proof.Claims

/-- Subtracting with an instruction of `n` bytes, as the statements write it (R166 to R171). -/
theorem writeA_sub8 {op : Byte} {n : Nat} (h : opcodeLength op = n) (v : Byte) (bin : Bool) (s : State) :
    writeA op (sub8 s.a v bin s.flags) s = subtracted s v bin.toNat (BitVec.ofNat 16 n) op := by
  rw [writeA_eq, sub8_eq_resultFlags, State.next_of_length h]
  rfl

/-- Comparing with an instruction of `n` bytes: the flags of the subtraction, whatever its length and cost, and nothing else
(R199 to R201). -/
theorem cmpA_eq_subtracted {op : Byte} {n : Nat} (h : opcodeLength op = n) (v : Byte) (len : Word) (s : State) :
    cmpA op v s = { s with
      flags := (subtracted s v 0 len 0#8).flags, pc := s.pc + BitVec.ofNat 16 n, cyc := s.cyc + cost op false } := by
  rw [cmpA_eq, sub8_eq_resultFlags, State.next_of_length h]
  rfl

/-- SUB (R166, R167). -/
theorem exec_sub (o : Operand8) (s : State) :
    exec (.ofAlu .sub o) s = .next (subtracted s (s.readOp8 o) 0 1 (opcodeOf (.ofAlu .sub o))) :=
  (exec_ofAlu .sub o s).trans (congrArg _ (writeA_sub8 (opcodeLength_ofAlu .sub o) _ false s))

/-- SBB (R169, R170). -/
theorem exec_sbb (o : Operand8) (s : State) :
    exec (.ofAlu .sbb o) s = .next (subtracted s (s.readOp8 o) s.flags.cy.toNat 1 (opcodeOf (.ofAlu .sbb o))) :=
  (exec_ofAlu .sbb o s).trans (congrArg _ (writeA_sub8 (opcodeLength_ofAlu .sbb o) _ s.flags.cy s))

/-- SUI (R168). -/
theorem exec_sui (v : Byte) (s : State) : exec (.sui v) s = .next (subtracted s v 0 2 0xD6#8) :=
  (exec_ofAluImm v .sub s).trans (congrArg _ (writeA_sub8 (opcodeLength_ofAluImm v .sub) _ false s))

/-- SBI (R171). -/
theorem exec_sbi (v : Byte) (s : State) : exec (.sbi v) s = .next (subtracted s v s.flags.cy.toNat 2 0xDE#8) :=
  (exec_ofAluImm v .sbb s).trans (congrArg _ (writeA_sub8 (opcodeLength_ofAluImm v .sbb) _ s.flags.cy s))

/-- Settles O40: the four instructions are one subtraction, with their source, borrow-in and length. -/
theorem subtractAndSubtractWithBorrow : Obligations.SubtractAndSubtractWithBorrow :=
  ⟨fun o s => ⟨exec_sub o s, exec_sbb o s, encode_ofAlu .sub o, encode_ofAlu .sbb o⟩,
    fun v s => ⟨encode_ofAluImm v .sub, encode_ofAluImm v .sbb, exec_sui v s, exec_sbi v s⟩⟩

/-- CMP (R199, R200). -/
theorem exec_cmp (o : Operand8) (s : State) : exec (.ofAlu .cmp o) s = .next { s with
    flags := (subtracted s (s.readOp8 o) 0 1 0#8).flags
    pc := s.pc + 1, cyc := s.cyc + cost (opcodeOf (.ofAlu .cmp o)) false } :=
  (exec_ofAlu .cmp o s).trans (congrArg _ (cmpA_eq_subtracted (opcodeLength_ofAlu .cmp o) _ 1 s))

/-- CPI (R201). -/
theorem exec_cpi (v : Byte) (s : State) : exec (.cpi v) s = .next { s with
    flags := (subtracted s v 0 2 0#8).flags
    pc := s.pc + 2, cyc := s.cyc + cost 0xFE#8 false } :=
  (exec_ofAluImm v .cmp s).trans (congrArg _ (cmpA_eq_subtracted (opcodeLength_ofAluImm v .cmp) _ 2 s))

/-- The flags after CMP are those of the subtraction (R97). -/
theorem flags_of_exec_cmp {s t : State} {o : Operand8} (h : exec (.ofAlu .cmp o) s = .next t) :
    t.flags = (sub8 s.a (s.readOp8 o) false s.flags).2 := by
  rw [exec_ofAlu] at h
  cases h
  rfl

/-- Settles O41: CMP and CPI are one comparison, and Z and CY of a subtraction compare its operands. -/
theorem compareSetsTheFlagsOfSubtraction : Obligations.CompareSetsTheFlagsOfSubtraction := by
  refine ⟨fun o s => ⟨encode_ofAlu .cmp o, exec_cmp o s⟩, fun v s => ⟨encode_ofAluImm v .cmp, exec_cpi v s⟩,
    fun s t o h => ?_⟩
  rw [flags_of_exec_cmp h]
  exact ⟨z_sub8_iff _ _ _, cy_sub8_iff _ _ _⟩

end Sys2Proof.Machine

/-! PROOF. Increment and decrement of a register or of the byte at HL (43_arithmetic section 3), which settle O42 and O43. -/

namespace Sys2Proof.Machine
open Sys2Proof.Claims

/-- A one-byte instruction that writes a register and the flags from a primitive (R172, R174). -/
theorem exec_writeOperand_reg {i : Instr} {op : Byte} {r : Reg8} {res : Byte × Flags} {v : Byte} {f : Flags} {s : State}
    (hexec : exec i s = .next (writeOperand op (.reg r) res s)) (hlen : opcodeLength op = 1) (hres : res = (v, f)) :
    exec i s = .next { s.setReg r v with flags := f, pc := s.pc + 1, cyc := s.cyc + cost op false } := by
  rw [hexec, hres, writeOperand_reg, State.next_of_length hlen]
  rfl

/-- A one-byte instruction that writes the byte at HL and the flags from a primitive: no other byte changes, and nothing else
but PC and cyc (R173, R175). -/
theorem exec_writeOperand_mem {i : Instr} {op : Byte} {res : Byte × Flags} {v : Byte} {f : Flags} {s : State}
    (hexec : exec i s = .next (writeOperand op .mem res s)) (hlen : opcodeLength op = 1) (hres : res = (v, f)) :
    ∃ t, exec i s = .next t ∧
      t = { s with flags := f, mem := t.mem, pc := s.pc + 1, cyc := s.cyc + cost op false } ∧
      t.read (s.pair .hl) = v ∧ ∀ addr, addr ≠ s.pair .hl → t.read addr = s.read addr := by
  rw [hexec, hres, writeOperand_mem, State.next_of_length hlen]
  exact ⟨_, rfl, rfl, s.read_write_same s.hl v, fun addr => s.read_write_of_ne v⟩

/-- Settles O42: `inc8` in numbers, written to the register or to the byte at HL. -/
theorem incrementRegisterOrMemory : Obligations.IncrementRegisterOrMemory :=
  ⟨fun r s => ⟨encode_ofInr (.reg r),
      exec_writeOperand_reg (exec_ofInr (.reg r) s) (opcodeLength_ofInr (.reg r)) (inc8_eq_resultFlags _ _)⟩,
    fun s => ⟨encode_ofInr .mem,
      exec_writeOperand_mem (exec_ofInr .mem s) (opcodeLength_ofInr .mem) (inc8_eq_resultFlags _ _)⟩⟩

/-- Settles O43: `dec8` in numbers, written to the register or to the byte at HL. -/
theorem decrementRegisterOrMemory : Obligations.DecrementRegisterOrMemory :=
  ⟨fun r s => ⟨encode_ofDcr (.reg r),
      exec_writeOperand_reg (exec_ofDcr (.reg r) s) (opcodeLength_ofDcr (.reg r)) (dec8_eq_resultFlags _ _)⟩,
    fun s => ⟨encode_ofDcr .mem,
      exec_writeOperand_mem (exec_ofDcr .mem s) (opcodeLength_ofDcr .mem) (dec8_eq_resultFlags _ _)⟩⟩

end Sys2Proof.Machine

/-! PROOF. Data transfer (42_data_transfer) and the exchanges with the stack (46_stack_machine): one lemma each for a register
written, a byte stored and a pair loaded settle O31 to O35; the exchanges of HL settle O37. -/

namespace Sys2Proof.Machine

/-! ## The three endings -/

/-- An instruction of `n` bytes that writes a register: nothing else changes but PC and cyc (R140, R141, R143, R146,
R150). -/
theorem exec_writeReg {i : Instr} {op : Byte} {n : Nat} {r : Reg8} {v : Byte} {s : State}
    (hexec : exec i s = .next ((s.writeOp8 (.reg r) v).advance op)) (hlen : opcodeLength op = n) :
    exec i s = .next { s.setReg r v with pc := s.pc + BitVec.ofNat 16 n, cyc := s.cyc + cost op false } := by
  rw [hexec, writeOp8_advance_reg, State.next_of_length hlen]

/-- An instruction of `n` bytes that stores a byte: it is read back there, no other byte changes, and nothing else but PC and
cyc (R142, R144, R147, R151). -/
theorem exec_storeByte {i : Instr} {op : Byte} {n : Nat} {addr : Word} {v : Byte} {s : State}
    (hexec : exec i s = .next ((s.write addr v).advance op)) (hlen : opcodeLength op = n) :
    ∃ t, exec i s = .next t ∧
      t = { s with mem := t.mem, pc := s.pc + BitVec.ofNat 16 n, cyc := s.cyc + cost op false } ∧
      t.read addr = v ∧ ∀ x, x ≠ addr → t.read x = s.read x := by
  refine ⟨_, hexec, ?_, s.read_write_same addr v, fun _ => s.read_write_of_ne v⟩
  rw [← State.next_of_length hlen]
  rfl

/-- LXI: the pair, PC and cyc, and nothing else (R145). -/
theorem exec_ofLxi_eq (v : Word) (p : RegPair) (s : State) :
    exec (.ofLxi v p) s =
      .next { s.setPair p v with pc := s.pc + 3, cyc := s.cyc + cost (opcodeOf (.ofLxi v p)) false } := by
  rw [exec_ofLxi, loadPairImm, setPair_advance, State.next_of_length (opcodeLength_ofLxi v p)]
  rfl

/-! ## MOV, MVI, LXI -/

/-- Settles O31: a register is written with the byte that another holds. -/
theorem movRegisterToRegister : Obligations.MovRegisterToRegister := fun dst src s =>
  have notMM : Operand8.reg dst ≠ .mem ∨ Operand8.reg src ≠ .mem := .inl nofun
  ⟨encode_ofMov (.reg dst) (.reg src) notMM,
    exec_writeReg (exec_ofMov (.reg dst) (.reg src) s notMM) (opcodeLength_ofMov (.reg dst) (.reg src))⟩

/-- Settles O32: a register is written with the byte at HL, or stored there. -/
theorem movBetweenRegisterAndMemory : Obligations.MovBetweenRegisterAndMemory := fun r s =>
  have dstReg : Operand8.reg r ≠ .mem ∨ Operand8.mem ≠ .mem := .inl nofun
  have srcReg : Operand8.mem ≠ .mem ∨ Operand8.reg r ≠ .mem := .inr nofun
  have sameByte : 0b01000000 + 8 * r.code + Operand8.mem.code = 0b01000110 + 8 * r.code := by cases r <;> rfl
  ⟨sameByte ▸ encode_ofMov (.reg r) .mem dstReg,
    exec_writeReg (exec_ofMov (.reg r) .mem s dstReg) (opcodeLength_ofMov (.reg r) .mem),
    encode_ofMov .mem (.reg r) srcReg,
    exec_storeByte (exec_ofMov .mem (.reg r) s srcReg) (opcodeLength_ofMov .mem (.reg r))⟩

/-- Settles O33: a register is written with the immediate byte, or the byte is stored at HL. -/
theorem moveImmediate : Obligations.MoveImmediate :=
  ⟨fun r v s => ⟨encode_ofMvi v (.reg r),
      exec_writeReg (exec_ofMvi v (.reg r) s) (opcodeLength_ofMvi v (.reg r))⟩,
    fun v s => ⟨encode_ofMvi v .mem,
      exec_storeByte (exec_ofMvi v .mem s) (opcodeLength_ofMvi v .mem)⟩⟩

/-- Settles O34: the rule of the family, for each of the four pairs. -/
theorem loadPairImmediate : Obligations.LoadPairImmediate :=
  ⟨fun p v => encode_ofLxi v p,
    fun v s => ⟨exec_ofLxi_eq v .bc s, exec_ofLxi_eq v .de s, exec_ofLxi_eq v .hl s, exec_ofLxi_eq v .sp s⟩⟩

/-! ## LDA, LDAX, STA, STAX -/

/-- Settles O35: A is written with the byte at an address, or stored there; the forms differ in the address and the length. -/
theorem accumulatorDirectAndIndirect : Obligations.AccumulatorDirectAndIndirect := fun a16 s =>
  ⟨rfl, rfl, rfl, rfl, rfl, rfl,
    exec_writeReg (r := .a) (exec_lda a16 s) rfl,
    exec_writeReg (r := .a) (exec_ldaxB s) rfl,
    exec_writeReg (r := .a) (exec_ldaxD s) rfl,
    exec_storeByte (exec_sta a16 s) rfl,
    exec_storeByte (exec_staxB s) rfl,
    exec_storeByte (exec_staxD s) rfl⟩

/-! ## XCHG, XTHL, SPHL -/

/-- Two bytes stored at an address and the next are read back there, and no other byte changes: the two
addresses differ (R43). -/
theorem State.read_write_write_add_one (s : State) (addr : Word) (lo hi : Byte) :
    ((s.write addr lo).write (addr + 1) hi).read addr = lo ∧
      ((s.write addr lo).write (addr + 1) hi).read (addr + 1) = hi ∧
      ∀ x, x ≠ addr → x ≠ addr + 1 → ((s.write addr lo).write (addr + 1) hi).read x = s.read x :=
  ⟨(State.read_write_of_ne _ hi (Word.ne_add_one addr)).trans (s.read_write_same addr lo),
    State.read_write_same _ _ hi,
    fun _ h0 h1 => (State.read_write_of_ne _ hi h1).trans (s.read_write_of_ne lo h0)⟩

/-- XCHG: H, L and D, E exchanged, PC and cyc, and nothing else (R152). -/
theorem exec_xchg_eq (s : State) : exec .xchg s = .next { s with
    h := s.d, l := s.e, d := s.h, e := s.l, pc := s.pc + 1, cyc := s.cyc + cost 0xEB#8 false } := by
  rw [exec_xchg, exchangeHLDE_eq]
  rfl

/-- Exchanging twice leaves every register as it was (R152). -/
theorem reg_exec_xchg_twice {s t u : State} (ht : exec .xchg s = .next t) (hu : exec .xchg t = .next u) (r : Reg8) :
    u.reg r = s.reg r := by
  rw [exec_xchg_eq] at ht hu
  cases ht
  cases hu
  cases r <;> rfl

/-- XTHL: L and H take the bytes at SP and SP + 1, the old L and H are read back there, no other byte changes, and nothing
else but PC and cyc (R244). -/
theorem exec_xthl_exchanges (s : State) :
    ∃ t, exec .xthl s = .next t ∧ t = { s with
      l := s.read s.sp, h := s.read (s.sp + 1), mem := t.mem, pc := s.pc + 1, cyc := s.cyc + cost 0xE3#8 false } ∧
      t.read s.sp = s.l ∧ t.read (s.sp + 1) = s.h ∧
      ∀ addr, addr ≠ s.sp → addr ≠ s.sp + 1 → t.read addr = s.read addr := by
  rw [exec_xthl, exchangeTopHL_eq]
  exact ⟨_, rfl, rfl, s.read_write_write_add_one s.sp s.l s.h⟩

/-- SPHL: SP, PC and cyc, and nothing else (R245). -/
theorem exec_sphl_eq (s : State) :
    exec .sphl s = .next { s with sp := s.pair .hl, pc := s.pc + 1, cyc := s.cyc + cost 0xF9#8 false } := rfl

/-- Settles O37: the three exchanges. -/
theorem exchangesOfHL : Obligations.ExchangesOfHL :=
  ⟨⟨rfl, rfl, rfl⟩, fun s =>
    ⟨exec_xchg_eq s, fun _ _ => reg_exec_xchg_twice, exec_xthl_exchanges s, exec_sphl_eq s⟩⟩

end Sys2Proof.Machine

/-! PROOF. The decoder on words written out (30_encoding sections 2 to 4), which settles O58. -/

namespace Sys2Proof

/-- Settles O58: every word is closed, so running the decoder on it gives the instruction and the byte left over. -/
theorem decodesAWordOfEachOtherFamily : Obligations.DecodesAWordOfEachOtherFamily := by
  unfold Obligations.DecodesAWordOfEachOtherFamily
  and_intros <;> rfl

end Sys2Proof

/-! PROOF. Add with and without the carry-in (43_arithmetic section 1), which settles O39: the primitive in numbers, then the
ending that the forms share. -/

namespace Sys2Proof.Machine
open Sys2Proof.Claims

/-- Addition (R95). -/
theorem add8_eq_resultFlags (a b : Byte) (cin : Bool) (f : Flags) :
    add8 a b cin f = (BitVec.ofNat 8 (a.toNat + b.toNat + cin.toNat),
      resultFlags (BitVec.ofNat 8 (a.toNat + b.toNat + cin.toNat)) (decide (255 < a.toNat + b.toNat + cin.toNat))
        (decide (15 < a.toNat % 16 + b.toNat % 16 + cin.toNat))) := by
  rw [← add8_ac a b cin f, ← zsp_with_cy_ac _ f]
  rfl

/-- Adding with an instruction of `n` bytes, as the statements write it (R160 to R165). -/
theorem writeA_add8 {op : Byte} {n : Nat} (h : opcodeLength op = n) (v : Byte) (cin : Bool) (s : State) :
    writeA op (add8 s.a v cin s.flags) s = added s v cin.toNat (BitVec.ofNat 16 n) op := by
  rw [writeA_eq, add8_eq_resultFlags, State.next_of_length h]
  rfl

/-- ADD (R160, R161). -/
theorem exec_add (o : Operand8) (s : State) :
    exec (.ofAlu .add o) s = .next (added s (s.readOp8 o) 0 1 (opcodeOf (.ofAlu .add o))) :=
  (exec_ofAlu .add o s).trans (congrArg _ (writeA_add8 (opcodeLength_ofAlu .add o) _ false s))

/-- ADC (R163, R164). -/
theorem exec_adc (o : Operand8) (s : State) :
    exec (.ofAlu .adc o) s = .next (added s (s.readOp8 o) s.flags.cy.toNat 1 (opcodeOf (.ofAlu .adc o))) :=
  (exec_ofAlu .adc o s).trans (congrArg _ (writeA_add8 (opcodeLength_ofAlu .adc o) _ s.flags.cy s))

/-- ADI (R162). -/
theorem exec_adi (v : Byte) (s : State) : exec (.adi v) s = .next (added s v 0 2 0xC6#8) :=
  (exec_ofAluImm v .add s).trans (congrArg _ (writeA_add8 (opcodeLength_ofAluImm v .add) _ false s))

/-- ACI (R165). -/
theorem exec_aci (v : Byte) (s : State) : exec (.aci v) s = .next (added s v s.flags.cy.toNat 2 0xCE#8) :=
  (exec_ofAluImm v .adc s).trans (congrArg _ (writeA_add8 (opcodeLength_ofAluImm v .adc) _ s.flags.cy s))

/-- Settles O39: the four instructions are one addition, with their source, carry-in and length. -/
theorem addAndAddWithCarry : Obligations.AddAndAddWithCarry :=
  ⟨fun o s => ⟨exec_add o s, exec_adc o s, encode_ofAlu .add o, encode_ofAlu .adc o⟩,
    fun v s => ⟨encode_ofAluImm v .add, encode_ofAluImm v .adc, exec_adi v s, exec_aci v s⟩⟩

end Sys2Proof.Machine

/-! PROOF. The arithmetic of the pairs (43_arithmetic section 4): INX and DCX, which settle O44, and DAD, which settles O45. -/

namespace Sys2Proof.Machine

/-- A one-byte instruction that writes a pair: nothing else changes but PC and cyc (R176, R177). -/
theorem exec_writePair {i : Instr} {op : Byte} {p : RegPair} {v w : Word} {s : State}
    (hexec : exec i s = .next ((s.setPair p v).advance op)) (hlen : opcodeLength op = 1) (hv : v = w) :
    exec i s = .next { s.setPair p w with pc := s.pc + 1, cyc := s.cyc + cost op false } := by
  rw [hexec, hv, setPair_advance, State.next_of_length hlen]
  rfl

/-- One more, modulo 65536 (R176). -/
theorem Word.add_one_eq_ofNat (v : Word) : v + 1 = BitVec.ofNat 16 (v.toNat + 1) := by bv_omega

/-- One less, modulo 65536 (R177). -/
theorem Word.sub_one_eq_ofNat (v : Word) : v - 1 = BitVec.ofNat 16 (v.toNat + 65535) := by bv_omega

/-- INX (R176). -/
theorem exec_ofInx_eq (p : RegPair) (s : State) :
    exec (.ofInx p) s = .next { s.setPair p (BitVec.ofNat 16 ((s.pair p).toNat + 1)) with
      pc := s.pc + 1, cyc := s.cyc + cost (opcodeOf (.ofInx p)) false } :=
  exec_writePair (exec_ofInx p s) (opcodeLength_ofInx p) (Word.add_one_eq_ofNat _)

/-- DCX (R177). -/
theorem exec_ofDcx_eq (p : RegPair) (s : State) :
    exec (.ofDcx p) s = .next { s.setPair p (BitVec.ofNat 16 ((s.pair p).toNat + 65535)) with
      pc := s.pc + 1, cyc := s.cyc + cost (opcodeOf (.ofDcx p)) false } :=
  exec_writePair (exec_ofDcx p s) (opcodeLength_ofDcx p) (Word.sub_one_eq_ofNat _)

/-- Settles O44: both write the pair with a sum modulo 65536 and nothing else. -/
theorem incrementAndDecrementPair : Obligations.IncrementAndDecrementPair := fun p s =>
  ⟨encode_ofInx p, encode_ofDcx p, exec_ofInx_eq p s, exec_ofDcx_eq p s⟩

/-- DAD: HL and CY, PC and cyc, and nothing else (R178, R102). -/
theorem exec_ofDad_eq (p : RegPair) (s : State) :
    exec (.ofDad p) s = .next { s.setPair .hl (BitVec.ofNat 16 ((s.pair .hl).toNat + (s.pair p).toNat)) with
      flags := { s.flags with cy := decide (65535 < (s.pair .hl).toNat + (s.pair p).toNat) }
      pc := s.pc + 1, cyc := s.cyc + cost (opcodeOf (.ofDad p)) false } := by
  rw [exec_ofDad, addPair_eq, State.next_of_length (opcodeLength_ofDad p)]
  rfl

/-- Settles O45: the encoding of the family, and DAD as one 16-bit addition. -/
theorem addPairToHL : Obligations.AddPairToHL := fun p s => ⟨encode_ofDad p, exec_ofDad_eq p s⟩

end Sys2Proof.Machine

/-! PROOF. The logical group (44_logical): the bitwise operations on A, which settle O46, the rotates, which settle O47, and the
complement and carry instructions, which settle O48. -/

namespace Sys2Proof.Machine
open Sys2Proof.Claims

/-! ## ANA, XRA, ORA and their immediate forms -/

/-- An instruction of `n` bytes that writes A with a byte and takes the flags of `logic8` from it: the byte's bits are all that
tells AND, exclusive OR and OR apart (R100, R190 to R198). -/
theorem exec_combined {i : Instr} {op res v : Byte} {n : Nat} {f : Bool → Bool → Bool} {s : State}
    (hexec : exec i s = .next (writeA op (res, logicFlags res s.flags) s)) (hlen : opcodeLength op = n)
    (hbit : ∀ k, res.getLsbD k = f (s.a.getLsbD k) (v.getLsbD k)) :
    ∃ t, exec i s = .next t ∧ Combined f s v (BitVec.ofNat 16 n) op t := by
  have hflags : logicFlags res s.flags = resultFlags res false false := zsp_with_cy_ac res s.flags false false
  rw [hexec, writeA_eq, State.next_of_length hlen, hflags]
  exact ⟨_, rfl, fun k _ => hbit k, rfl⟩

/-- Settles O46: each primitive computes its result bit by bit, from an operand or from the immediate byte. -/
theorem logicalOperations : Obligations.LogicalOperations :=
  ⟨fun o s => ⟨encode_ofAlu .ana o, encode_ofAlu .xra o, encode_ofAlu .ora o,
      exec_combined (exec_ofAlu .ana o s) (opcodeLength_ofAlu .ana o) fun _ => BitVec.getLsbD_and,
      exec_combined (exec_ofAlu .xra o s) (opcodeLength_ofAlu .xra o) fun _ => BitVec.getLsbD_xor,
      exec_combined (exec_ofAlu .ora o s) (opcodeLength_ofAlu .ora o) fun _ => BitVec.getLsbD_or⟩,
    fun v s => ⟨encode_ofAluImm v .ana, encode_ofAluImm v .xra, encode_ofAluImm v .ora,
      exec_combined (exec_ofAluImm v .ana s) (opcodeLength_ofAluImm v .ana) fun _ => BitVec.getLsbD_and,
      exec_combined (exec_ofAluImm v .xra s) (opcodeLength_ofAluImm v .xra) fun _ => BitVec.getLsbD_xor,
      exec_combined (exec_ofAluImm v .ora s) (opcodeLength_ofAluImm v .ora) fun _ => BitVec.getLsbD_or⟩⟩

/-! ## The rotates -/

/-- `bitAt n b` has `b` at position `n` and 0 elsewhere. -/
theorem getLsbD_bitAt (n k : Nat) (b : Bool) : (bitAt n b).getLsbD k = (decide (k < 8) && decide (k = n) && b) := by
  cases b with
  | false => simp [bitAt]
  | true =>
    have position : n ≤ k ∧ k ≤ n ↔ k = n := by omega
    rw [Bool.eq_iff_iff]
    simp [bitAt, BitVec.getLsbD_one, and_assoc, Nat.sub_eq_zero_iff_le, position]

/-- Shifting left by one and setting bit 0: bit 0 is the one that enters, every other comes from below (R202, R204). -/
theorem bits_shiftLeft_one_or_bitAt (v : Byte) (b : Bool) :
    (v <<< 1 ||| bitAt 0 b).getLsbD 0 = b ∧ ∀ k, k < 7 → (v <<< 1 ||| bitAt 0 b).getLsbD (k + 1) = v.getLsbD k := by
  simp only [BitVec.getLsbD_or, BitVec.getLsbD_shiftLeft, getLsbD_bitAt]
  constructor
  · simp
  · intro k hk
    have inByte : k + 1 < 8 := by omega
    simp [inByte]

/-- Shifting right by one and setting bit 7: bit 7 is the one that enters, every other comes from above (R203, R205). -/
theorem bits_shiftRight_one_or_bitAt (v : Byte) (b : Bool) :
    (v >>> 1 ||| bitAt 7 b).getLsbD 7 = b ∧ ∀ k, k < 7 → (v >>> 1 ||| bitAt 7 b).getLsbD k = v.getLsbD (k + 1) := by
  simp only [BitVec.getLsbD_or, BitVec.getLsbD_ushiftRight, getLsbD_bitAt]
  constructor
  · simp
  · intro k hk
    simp [hk.ne, Nat.add_comm]

/-- A one-byte rotate changes A and CY, PC and cyc, and nothing else (R202 to R205). -/
theorem rotated_rotate {op : Byte} (hlen : opcodeLength op = 1) (v : Byte) (cy : Bool) (s : State) :
    Rotated s cy op (rotate op v cy s) := by
  rw [rotate_eq, State.next_of_length hlen]
  rfl

/-- A rotate to the left, with the bit that enters (R202, R204). -/
theorem exec_rotateLeft {i : Instr} {op : Byte} {entering leaving : Bool} {s : State}
    (hexec : exec i s = .next (rotate op (s.a <<< 1 ||| bitAt 0 entering) leaving s)) (hlen : opcodeLength op = 1) :
    ∃ t, exec i s = .next t ∧ Rotated s leaving op t ∧
      t.a.getLsbD 0 = entering ∧ ∀ k, k < 7 → t.a.getLsbD (k + 1) = s.a.getLsbD k :=
  ⟨_, hexec, rotated_rotate hlen _ _ _, bits_shiftLeft_one_or_bitAt s.a entering⟩

/-- A rotate to the right, with the bit that enters (R203, R205). -/
theorem exec_rotateRight {i : Instr} {op : Byte} {entering leaving : Bool} {s : State}
    (hexec : exec i s = .next (rotate op (s.a >>> 1 ||| bitAt 7 entering) leaving s)) (hlen : opcodeLength op = 1) :
    ∃ t, exec i s = .next t ∧ Rotated s leaving op t ∧
      t.a.getLsbD 7 = entering ∧ ∀ k, k < 7 → t.a.getLsbD k = s.a.getLsbD (k + 1) :=
  ⟨_, hexec, rotated_rotate hlen _ _ _, bits_shiftRight_one_or_bitAt s.a entering⟩

/-- Settles O47: two rotates to the left and two to the right, with the bit that leaves A or the old CY entering. -/
theorem rotatesOfTheAccumulator : Obligations.RotatesOfTheAccumulator :=
  ⟨⟨rfl, rfl, rfl, rfl⟩, fun s =>
    ⟨exec_rotateLeft (exec_rlc s) rfl, exec_rotateRight (exec_rrc s) rfl,
      exec_rotateLeft (exec_ral s) rfl, exec_rotateRight (exec_rar s) rfl⟩⟩

/-! ## CMA, CMC, STC -/

/-- The complement of a byte, in numbers (R206). -/
theorem Byte.not_eq_ofNat (v : Byte) : ~~~v = BitVec.ofNat 8 (255 - v.toNat) := by bv_omega

/-- CMA: A, PC and cyc, and nothing else (R206). -/
theorem exec_cma_eq (s : State) : exec .cma s = .next { s with
    a := BitVec.ofNat 8 (255 - s.a.toNat), pc := s.pc + 1, cyc := s.cyc + cost 0x2F#8 false } := by
  rw [exec_cma, Byte.not_eq_ofNat]
  rfl

/-- CMC: CY, PC and cyc, and nothing else (R207). -/
theorem exec_cmc_eq (s : State) : exec .cmc s = .next { s with
    flags := { s.flags with cy := !s.flags.cy }, pc := s.pc + 1, cyc := s.cyc + cost 0x3F#8 false } := rfl

/-- STC: CY, PC and cyc, and nothing else (R208). -/
theorem exec_stc_eq (s : State) : exec .stc s = .next { s with
    flags := { s.flags with cy := true }, pc := s.pc + 1, cyc := s.cyc + cost 0x37#8 false } := rfl

/-- CMC inverts the CY that STC has set (R207, R208). -/
theorem cy_of_exec_stc_cmc {s t u : State} (ht : exec .stc s = .next t) (hu : exec .cmc t = .next u) :
    u.flags.cy = false := by
  rw [exec_stc_eq] at ht
  rw [exec_cmc_eq] at hu
  cases ht
  cases hu
  rfl

/-- Settles O48: the three instructions, and STC followed by CMC. -/
theorem complementAndCarryInstructions : Obligations.ComplementAndCarryInstructions :=
  ⟨⟨rfl, rfl, rfl⟩, fun s => ⟨exec_cma_eq s, exec_cmc_eq s, exec_stc_eq s, fun _ _ => cy_of_exec_stc_cmc⟩⟩

end Sys2Proof.Machine

/-! PROOF. Control transfer (45_control_transfer): the conditions, which settle O49, the jumps, which settle O50, the calls, which
settle O51, the returns, which settle O53, and a call followed by a return, which settles O30. -/

namespace Sys2Proof.Machine
open Sys2Proof.Claims

/-! ## The conditions -/

/-- Changing a flag changes no condition that names another flag, and AC is named by none (R228). -/
theorem condHolds_of_other_flag (f : Flags) (cond : Cond) (b : Bool) :
    condHolds { f with ac := b } cond = condHolds f cond ∧
      (cond ∉ [Cond.nz, .z] → condHolds { f with z := b } cond = condHolds f cond) ∧
      (cond ∉ [Cond.nc, .c] → condHolds { f with cy := b } cond = condHolds f cond) ∧
      (cond ∉ [Cond.po, .pe] → condHolds { f with p := b } cond = condHolds f cond) ∧
      (cond ∉ [Cond.p, .m] → condHolds { f with s := b } cond = condHolds f cond) := by
  cases cond <;> simp [condHolds]

/-- Settles O49: an even field value asks that its flag is 0, an odd one that it is 1. -/
theorem conditionsReadOneFlag : Obligations.ConditionsReadOneFlag := fun f =>
  have clear (flag : Bool) : (!flag) = true ↔ flag = false := Bool.not_eq_true' flag ▸ Iff.rfl
  ⟨clear f.z, Iff.rfl, clear f.cy, Iff.rfl, clear f.p, Iff.rfl, clear f.s, Iff.rfl, condHolds_of_other_flag f⟩

/-! ## The jumps -/

/-- Jcc: PC and cyc by the outcome, and nothing else (R221). -/
theorem exec_ofJcc_eq (a16 : Word) (cond : Cond) (s : State) : exec (.ofJcc a16 cond) s = .next { s with
    pc := if condHolds s.flags cond then a16 else s.pc + 3
    cyc := s.cyc + cost (opcodeOf (.ofJcc a16 cond)) (condHolds s.flags cond) } := by
  rw [exec_ofJcc, jumpIf_eq, State.next_of_length (opcodeLength_ofJcc a16 cond)]
  rfl

/-- Settles O50: JMP and PCHL always jump, Jcc by its condition. -/
theorem jumps : Obligations.Jumps := fun a16 cond s =>
  ⟨rfl, rfl, encode_ofJcc a16 cond, exec_jmp a16 s, exec_pchl s, exec_ofJcc_eq a16 cond s⟩

/-! ## The calls -/

/-- The upper slot of a push (R128). -/
theorem State.read_push16_high (s : State) (v : Word) : (s.push16 v).read (s.sp - 1) = hiByte v := by
  rw [State.read_push16, if_neg (Word.sub_one_ne_sub_two s.sp), if_pos rfl]

/-- The lower slot of a push (R128). -/
theorem State.read_push16_low (s : State) (v : Word) : (s.push16 v).read (s.sp - 2) = loByte v := by
  rw [State.read_push16, if_pos rfl]

/-- A push changes no byte outside its two slots (R128). -/
theorem State.read_push16_of_ne (s : State) (v : Word) {addr : Word} (hhigh : addr ≠ s.sp - 1) (hlow : addr ≠ s.sp - 2) :
    (s.push16 v).read addr = s.read addr := by
  rw [State.read_push16, if_neg hlow, if_neg hhigh]

/-- A push of the return address, the jump and a cost (R222, R226). -/
theorem called_push16 (s : State) (ret target : Word) (c : Nat) :
    Called s ret target c { s.push16 ret with pc := target, cyc := s.cyc + c } :=
  ⟨rfl, (congrArg BitVec.toNat (s.read_push16_high ret)).trans (toNat_hiByte ret),
    (congrArg BitVec.toNat (s.read_push16_low ret)).trans (toNat_loByte ret), fun _ => s.read_push16_of_ne ret⟩

/-- CALL and RST, with an instruction of `n` bytes (R222, R226). -/
theorem called_callTo {op : Byte} {n : Nat} (hlen : opcodeLength op = n) (target : Word) (s : State) :
    Called s (s.pc + BitVec.ofNat 16 n) target (cost op false) (callTo op target s) := by
  rw [callTo_eq, State.next_of_length hlen]
  exact called_push16 s _ target _

/-- CALL (R222). -/
theorem exec_call_called (a16 : Word) (s : State) :
    ∃ t, exec (.call a16) s = .next t ∧ Called s (s.pc + 3) a16 (cost 0xCD#8 false) t :=
  ⟨_, exec_call a16 s, called_callTo rfl a16 s⟩

/-- Ccc, taken (R223). -/
theorem exec_ofCcc_called (a16 : Word) {cond : Cond} {s : State} (h : condHolds s.flags cond = true) :
    ∃ t, exec (.ofCcc a16 cond) s = .next t ∧
      Called s (s.pc + 3) a16 (cost (opcodeOf (.ofCcc a16 cond)) true) t := by
  rw [exec_ofCcc, callIf_taken h, State.next_of_length (opcodeLength_ofCcc a16 cond)]
  exact ⟨_, rfl, called_push16 s _ a16 _⟩

/-- Ccc, not taken: PC and cyc, and nothing else (R223). -/
theorem exec_ofCcc_not_taken (a16 : Word) {cond : Cond} {s : State} (h : condHolds s.flags cond = false) :
    exec (.ofCcc a16 cond) s = .next { s with
      pc := s.pc + 3, cyc := s.cyc + cost (opcodeOf (.ofCcc a16 cond)) false } := by
  rw [exec_ofCcc, callIf_not_taken h, State.next_of_length (opcodeLength_ofCcc a16 cond)]
  rfl

/-- RST n (R226). -/
theorem exec_ofRst_called {n : Nat} (hn : n < 8) (s : State) :
    ∃ t, exec (.ofRst n) s = .next t ∧
      Called s (s.pc + 1) (BitVec.ofNat 16 (8 * n)) (cost (opcodeOf (.ofRst n)) false) t := by
  rw [exec_ofRst s hn, restartVector, Nat.mul_comm]
  exact ⟨_, rfl, called_callTo (opcodeLength_ofRst hn) _ s⟩

/-- Settles O51: CALL and a taken Ccc are one push and jump; a Ccc not taken only advances. -/
theorem callsAndConditionalCalls : Obligations.CallsAndConditionalCalls :=
  ⟨fun a16 s => ⟨rfl, exec_call_called a16 s⟩,
    fun a16 cond _ => ⟨encode_ofCcc a16 cond, exec_ofCcc_called a16, exec_ofCcc_not_taken a16⟩⟩

/-! ## The returns -/

/-- The word on top of the stack, in numbers (R129). -/
theorem State.stackTop_eq_ofNat (s : State) :
    s.stackTop = BitVec.ofNat 16 (256 * (s.read (s.sp + 1)).toNat + (s.read s.sp).toNat) := by
  rw [← toNat_word16, BitVec.ofNat_toNat, BitVec.setWidth_eq]
  rfl

/-- Rcc: popped into PC if the condition holds, else PC and cyc only (R225). -/
theorem exec_ofRcc_eq (cond : Cond) (s : State) :
    exec (.ofRcc cond) s = .next (if condHolds s.flags cond then
      { s with pc := s.stackTop, sp := s.sp + 2, cyc := s.cyc + cost (opcodeOf (.ofRcc cond)) true }
      else { s with pc := s.pc + 1, cyc := s.cyc + cost (opcodeOf (.ofRcc cond)) false }) := by
  rw [exec_ofRcc]
  cases h : condHolds s.flags cond with
  | true => rw [returnIf_taken h, if_pos rfl]
  | false =>
    rw [returnIf_not_taken h, State.next_of_length (opcodeLength_ofRcc cond), if_neg Bool.false_ne_true]
    rfl

/-- Settles O53: the popped word is the one on top of the stack. -/
theorem returns : Obligations.Returns := fun cond s => by
  rw [← s.stackTop_eq_ofNat]
  exact ⟨rfl, encode_ofRcc cond, exec_ret s, exec_ofRcc_eq cond s⟩

/-! ## A call followed by a return -/

/-- The fetch decodes the bytes at PC: it takes an instruction that the decoder finds there (R260, R266). -/
theorem fetch_of_decodeBytes {s : State} {bytes : List Byte} {i : Instr} (hdec : decodeBytes bytes = .instr i [])
    (hbytes : ∀ k, (h : k < bytes.length) → s.read (s.pc + BitVec.ofNat 16 k) = bytes[k]) : s.fetch = i := by
  cases bytes with
  | nil => cases hdec
  | cons op rest =>
    have hop : s.read s.pc = op := by simpa using hbytes 0
    simp only [decodeBytes] at hdec
    split at hdec
    case h_1 hlen =>
      cases hdec
      simp [State.fetch, hop, hlen]
    case h_2 b2 _ hlen =>
      cases hdec
      have hb2 : s.read (s.pc + 1#16) = b2 := by simpa using hbytes 1
      simp [State.fetch, hop, hlen, hb2]
    case h_3 b2 b3 _ hlen =>
      cases hdec
      have hb2 : s.read (s.pc + 1#16) = b2 := by simpa using hbytes 1
      have hb3 : s.read (s.pc + 2#16) = b3 := by simpa using hbytes 2
      simp [State.fetch, hop, hlen, hb2, hb3]
    case h_4 => cases hdec

/-- 0xCD with its address, low byte first (R64, R222). -/
theorem decodeBytes_encode_call (a16 : Word) : decodeBytes (encode (.call a16)) = .instr (.call a16) [] :=
  congrArg (fun v => Decoded.instr (.call v) []) (word16_hiByte_loByte a16)

/-- 11 ccc 100 with its address, low byte first (R64, R223). -/
theorem decodeBytes_encode_ofCcc (a16 : Word) (cond : Cond) :
    decodeBytes (encode (.ofCcc a16 cond)) = .instr (.ofCcc a16 cond) [] := by
  have decoded : decodeBytes (encode (.ofCcc a16 cond)) = .instr (.ofCcc (word16 (hiByte a16) (loByte a16)) cond) [] := by
    cases cond <;> rfl
  rw [decoded, word16_hiByte_loByte]

/-- 11 nnn 111 has no operand byte (R226). -/
theorem decodeBytes_encode_ofRst {n : Nat} (h : n < 8) : decodeBytes (encode (.ofRst n)) = .instr (.ofRst n) [] := by
  interval_cases n <;> rfl

/-- 11 ccc 000 has no operand byte: the bytes that follow do not matter (R225). -/
theorem decode_opcodeOf_ofRcc (cond : Cond) (b2 b3 : Byte) : decode (opcodeOf (.ofRcc cond)) b2 b3 = .ofRcc cond := by
  cases cond <;> rfl

/-- The step of a Running core with a CALL, a taken Ccc or an RST at PC pushes the address that follows the instruction and jumps
to the target (R222, R223, R226). -/
theorem step_call {s : State} {i : Instr} {target : Word} (hrun : s.run = .running)
    (hcall : i = .call target ∨ (∃ cond, i = .ofCcc target cond ∧ condHolds s.flags cond = true) ∨
      ∃ n, n < 8 ∧ i = .ofRst n ∧ target = BitVec.ofNat 16 (8 * n))
    (hbytes : ∀ k, (h : k < (encode i).length) → s.read (s.pc + BitVec.ofNat 16 k) = (encode i)[k]) :
    ∃ c t, step s = .next t ∧ Called s (s.pc + BitVec.ofNat 16 (encode i).length) target c t := by
  rw [step_running hrun]
  obtain rfl | ⟨cond, rfl, htaken⟩ | ⟨n, hn, rfl, rfl⟩ := hcall
  · rw [fetch_of_decodeBytes (decodeBytes_encode_call target) hbytes]
    exact ⟨_, exec_call_called target s⟩
  · rw [fetch_of_decodeBytes (decodeBytes_encode_ofCcc target cond) hbytes, encode_ofCcc]
    exact ⟨_, exec_ofCcc_called target htaken⟩
  · rw [fetch_of_decodeBytes (decodeBytes_encode_ofRst hn) hbytes, encode_ofRst n hn]
    exact ⟨_, exec_ofRst_called hn s⟩

/-- The step of a Running core with a RET or a taken Rcc at PC pops PC and changes nothing else but cyc (R224, R225). -/
theorem step_return {s : State} {i : Instr} (hop : s.read s.pc = opcodeOf i) (hrun : s.run = .running)
    (hret : i = .ret ∨ ∃ cond, i = .ofRcc cond ∧ condHolds s.flags cond = true) :
    ∃ c, step s = .next { s with pc := s.stackTop, sp := s.sp + 2, cyc := c } := by
  rw [step_running hrun, State.fetch, hop]
  obtain rfl | ⟨cond, rfl, htaken⟩ := hret
  · exact ⟨_, exec_ret s⟩
  · rw [decode_opcodeOf_ofRcc, exec_ofRcc_eq, if_pos htaken]
    exact ⟨_, rfl⟩

/-- After a call the word on top of the stack is the return address (R128, R129). -/
theorem stackTop_of_called {s t : State} {ret target : Word} {c : Nat} (h : Called s ret target c t) : t.stackTop = ret := by
  obtain ⟨ht, hhigh, hlow, -⟩ := h
  have hsp : t.sp = s.sp - 2 := congrArg State.sp ht
  have hslot : s.sp - 2 + 1 = s.sp - 1 := by bv_omega
  apply BitVec.eq_of_toNat_eq
  rw [State.stackTop, hsp, State.read16, toNat_word16, hslot, hhigh, hlow]
  omega

/-- Two steps (R268). -/
theorem runFor_two {s t u : State} (ht : step s = .next t) (hu : step t = .next u) : runFor 2 s = .next u := by
  simp [runFor, Host.Core.run, core, ht, hu]

/-- Settles O30: the call leaves the return address on top of the stack and the target untouched, so the return pops it. -/
theorem callThenReturnResumesAfterTheCall : Obligations.CallThenReturnResumesAfterTheCall := by
  intro s callI retI target hrun hcall hret hbytes hhigh hlow hop
  obtain ⟨c, t, hstep, hcalled⟩ := step_call hrun hcall hbytes
  have htop := stackTop_of_called hcalled
  obtain ⟨ht, -, -, hframe⟩ := hcalled
  have hretAt := (hframe target hhigh hlow).trans hop
  generalize t.mem = mem at ht
  subst ht
  obtain ⟨c', hstep'⟩ := step_return hretAt hrun hret
  exact ⟨_, runFor_two hstep hstep', htop, BitVec.sub_add_cancel s.sp 2, rfl, fun r => by cases r <;> rfl, rfl, rfl, hrun⟩

end Sys2Proof.Machine

/-! PROOF. PUSH and POP (46_stack_machine section 1): what PUSH writes settles O54, what POP reads settles O55, and the two
together settle O29. -/

namespace Sys2Proof.Machine
open Sys2Proof.Claims

/-! ## PUSH -/

/-- PUSH, with the two bytes of what it pushes: its two slots, SP, PC and cyc, and nothing else (R240, R241). -/
theorem exec_ofPush_pushed {p : StackPair} {s : State} {hi lo : Byte} (h : s.stackPair p = word16 hi lo) :
    ∃ t, exec (.ofPush p) s = .next t ∧ Pushed s hi lo (opcodeOf (.ofPush p)) t := by
  have hhigh : hiByte (s.stackPair p) = hi := h ▸ hiByte_word16 hi lo
  have hlow : loByte (s.stackPair p) = lo := h ▸ loByte_word16 hi lo
  rw [exec_ofPush, push_eq, State.next_of_length (opcodeLength_ofPush p)]
  exact ⟨_, rfl, rfl, (s.read_push16_high _).trans hhigh, (s.read_push16_low _).trans hlow, fun _ => s.read_push16_of_ne _⟩

/-- Settles O54: the two bytes that PUSH stores are the registers of the pair. -/
theorem pushPair : Obligations.PushPair := fun _ =>
  ⟨rfl, rfl, rfl, exec_ofPush_pushed (p := .bc) rfl, exec_ofPush_pushed (p := .de) rfl,
    exec_ofPush_pushed (p := .hl) rfl⟩

/-! ## POP -/

/-- POP: what the pair covers, SP, PC and cyc, and nothing else (R242, R243). -/
theorem exec_ofPop_eq (p : StackPair) (s : State) : exec (.ofPop p) s = .next { s.setStackPair p s.stackTop with
    sp := s.sp + 2, pc := s.pc + 1, cyc := s.cyc + cost (opcodeOf (.ofPop p)) false } := by
  rw [exec_ofPop, pop_pair, State.next_of_length (opcodeLength_ofPop p)]
  rfl

/-- The high byte of the word on top of the stack is the one at SP + 1 (R129). -/
theorem State.hiByte_stackTop (s : State) : hiByte s.stackTop = s.read (s.sp + 1) := hiByte_word16 _ _

/-- The low byte of the word on top of the stack is the one at SP (R129). -/
theorem State.loByte_stackTop (s : State) : loByte s.stackTop = s.read s.sp := loByte_word16 _ _

/-- Settles O55: the registers of the pair take the two bytes of the word on top of the stack. -/
theorem popPair : Obligations.PopPair := fun s => by
  rw [← s.hiByte_stackTop, ← s.loByte_stackTop]
  exact ⟨rfl, rfl, rfl, exec_ofPop_eq .bc s, exec_ofPop_eq .de s, exec_ofPop_eq .hl s⟩

/-! ## PUSH followed by POP -/

/-- The five flags are read back from the flag byte (R22, R23). -/
theorem flagsOfByte_flagByte (f : Flags) : flagsOfByte (flagByte f) = f := by
  rcases f with ⟨_ | _, _ | _, _ | _, _ | _, _ | _⟩ <;> rfl

/-- Writing to a pair what it holds changes nothing (R13). -/
theorem State.setPair_pair (s : State) (p : RegPair) : s.setPair p (s.pair p) = s := by
  cases p <;> simp [State.setPair, State.pair, State.setReg, State.setSP]

/-- Writing to a pair, or to A and the flags, what a push of it would store changes nothing (R22 to R24). -/
theorem State.setStackPair_stackPair (s : State) (p : StackPair) : s.setStackPair p (s.stackPair p) = s := by
  cases p with
  | bc => exact s.setPair_pair .bc
  | de => exact s.setPair_pair .de
  | hl => exact s.setPair_pair .hl
  | psw =>
    rw [State.setStackPair, State.stackPair, hiByte_word16, loByte_word16, flagsOfByte_flagByte]
    rfl

/-- A pair reads back the word written to it (R13); PSW does not, for its flag byte has fixed bits (R22). -/
theorem State.stackPair_setStackPair_same (s : State) {p : StackPair} (h : p ≠ .psw) (v : Word) :
    (s.setStackPair p v).stackPair p = v := by
  cases p with
  | bc => exact s.pair_setPair_same .bc v
  | de => exact s.pair_setPair_same .de v
  | hl => exact s.pair_setPair_same .hl v
  | psw => exact absurd rfl h

/-- The two bytes that were pushed are the word on top of the stack (R128, R129). -/
theorem stackTop_of_pushed {s t : State} {hi lo op : Byte} (h : Pushed s hi lo op t) : t.stackTop = word16 hi lo := by
  obtain ⟨ht, hhigh, hlow, -⟩ := h
  have hsp : t.sp = s.sp - 2 := congrArg State.sp ht
  have hslot : s.sp - 2 + 1 = s.sp - 1 := by bv_omega
  rw [State.stackTop, State.read16, hsp, hslot, hhigh, hlow]

/-- PUSH of `p`, then POP of `q`: what `p` held is written to `q`, SP is as before, and nothing else differs but memory, PC and
cyc (R240 to R243). -/
theorem exec_ofPush_then_ofPop {p q : StackPair} {s t u : State} (ht : exec (.ofPush p) s = .next t)
    (hu : exec (.ofPop q) t = .next u) :
    u = { s.setStackPair q (s.stackPair p) with mem := u.mem, pc := u.pc, cyc := u.cyc } := by
  obtain ⟨t', ht', hpushed⟩ := exec_ofPush_pushed (word16_hiByte_loByte (s.stackPair p)).symm
  cases ht.symm.trans ht'
  have htop : t.stackTop = s.stackPair p := (stackTop_of_pushed hpushed).trans (word16_hiByte_loByte _)
  obtain ⟨ht, -⟩ := hpushed
  have hsp : t.sp + 2 = s.sp := (congrArg (State.sp · + 2) ht).trans (BitVec.sub_add_cancel s.sp 2)
  rw [exec_ofPop_eq, htop, hsp] at hu
  cases hu
  rw [ht]
  cases q <;> rfl

/-- Settles O29: what was pushed is popped; a pair, or PSW, that is written with what it holds stays as it is. -/
theorem pushThenPopInstructionsRestoreThePair : Obligations.PushThenPopInstructionsRestoreThePair := by
  constructor
  · intro p s t u ht hu
    have restored := exec_ofPush_then_ofPop ht hu
    rw [s.setStackPair_stackPair p] at restored
    rw [restored]
    exact ⟨fun r => by cases r <;> rfl, rfl, rfl, by cases p <;> rfl⟩
  · intro p q s t u _ hq ht hu
    have written : u.stackPair q = (s.setStackPair q (s.stackPair p)).stackPair q := by
      rw [exec_ofPush_then_ofPop ht hu]
      cases q <;> rfl
    rw [written, s.stackPair_setStackPair_same hq]

end Sys2Proof.Machine

/-! PROOF. The dispatch step (47_dispatch_step section 1), which settles O6: the decoder reads back every encoding, so the fetch
takes the instruction whose bytes stand at PC; an undefined opcode's only effect is its fault. -/

namespace Sys2Proof

/-- The decoder takes the bytes of an instruction and leaves the bytes after them (R61, R70): a 16-bit operand is put together
again from its two bytes (R64). -/
theorem decodeBytes_encode (i : Instr) (rest : List Byte) : decodeBytes (encode i ++ rest) = .instr i rest := by
  cases i
  case lxiB v | lxiD v | lxiH v | lxiSP v | shld v | lhld v | sta v | lda v | jmp v | call v |
      jnz v | jz v | jnc v | jc v | jpo v | jpe v | jp v | jm v |
      cnz v | cz v | cnc v | cc v | cpo v | cpe v | cp v | cm v =>
    conv_rhs => rw [← word16_hiByte_loByte v]
    rfl
  all_goals rfl

end Sys2Proof

namespace Sys2Proof.Machine

/-- The fetch takes the instruction whose encoding stands at PC (R260, R266). -/
theorem fetch_of_encode {s : State} {i : Instr}
    (hbytes : ∀ k, (h : k < (encode i).length) → s.read (s.pc + BitVec.ofNat 16 k) = (encode i)[k]) : s.fetch = i :=
  fetch_of_decodeBytes (by simpa using decodeBytes_encode i []) hbytes

/-- The terms that WellFormed refuses are those of the undefined opcodes (R71, R280). -/
theorem faultOf_of_wf_eq_false {i : Instr} (h : i.wf = false) : faultOf i = some .undefinedOpcode := by
  unfold Instr.wf at h
  split at h
  case h_13 => cases h
  all_goals rfl

/-- Settles O6: a Running core executes what it fetches, and any other core stays as it is. -/
theorem stepExecutesTheInstructionAtPC : Obligations.StepExecutesTheInstructionAtPC := by
  refine ⟨fun s i hrun hbytes => ?_, fun s => step_not_running, fun s i hwf => ?_⟩
  · rw [step_running hrun, fetch_of_encode hbytes]
  · exact exec_of_faultOf (faultOf_of_wf_eq_false hwf) s

end Sys2Proof.Machine

/-! PROOF. Reset (70_reset_and_hazards section 1), which settles O27: `State.reset`, which lists no cell, is the reset of MEM0
equal to the fill everywhere. -/

namespace Sys2Proof.Machine

/-- A memory that holds the fill everywhere lists no cell (log entry 2). -/
theorem Memory.ofFun_memFill : Memory.ofFun (fun _ => Config.memFill) = [] :=
  List.eq_nil_iff_forall_not_mem.2 fun c hc => by
    obtain ⟨-, isFill, notFill⟩ := (Memory.mem_ofFun _ c).1 hc
    exact notFill isFill

/-- The state after reset is reset for the ENTRY and the fill of `Config` (R300, log entries 1 and 2). -/
theorem State.reset_eq_resetWith : State.reset = State.resetWith Config.entry (fun _ => Config.memFill) := by
  rw [State.resetWith, Memory.ofFun_memFill]
  rfl

/-- Reset leaves every register 0, for every ENTRY and every MEM0 (R300). -/
theorem State.reg_resetWith (entry : Word) (mem0 : Word → Byte) (r : Reg8) : (State.resetWith entry mem0).reg r = 0#8 := by
  cases r <;> rfl

/-- Settles O27: memory after reset reads as MEM0 says, and every other piece of state has the value that reset names. -/
theorem resetGivesEveryPieceOfState : Obligations.ResetGivesEveryPieceOfState :=
  ⟨fun entry mem0 => ⟨State.reg_resetWith entry mem0, rfl, rfl, rfl, rfl, rfl, rfl, State.read_resetWith entry mem0⟩,
    State.reset_eq_resetWith⟩

end Sys2Proof.Machine

/-! PROOF. The decoder and the encoder are inverse to each other (30_encoding sections 3 and 7), which settles O2 and O3, and
the opcode byte alone tells which decoded terms are instructions (section 4), which settles O5. -/

namespace Sys2Proof

/-- Settles O2: the rule of the decoder on an encoding and the bytes after it. -/
theorem decodingAnEncodingGivesTheInstruction : Obligations.DecodingAnEncodingGivesTheInstruction := decodeBytes_encode

/-- The encoding of a decoded instruction before the word is put together: the operand bytes of a 3-byte instruction are those
of the word that the decoder made of them (R64, R70). -/
theorem encode_decode_word (op b2 b3 : Byte) :
    encode (decode op b2 b3) = op ::
      [if opcodeLength op = 3 then loByte (word16 b3 b2) else b2, hiByte (word16 b3 b2)].take (opcodeLength op - 1) := by
  induction op using Byte.forall_of_ofNat with
  | h n hn => interval_cases n <;> rfl

/-- The encoding of a decoded instruction: its opcode byte, then as many operand bytes as the opcode's length says (R61,
R74). -/
theorem encode_decode (op b2 b3 : Byte) : encode (decode op b2 b3) = op :: [b2, b3].take (opcodeLength op - 1) := by
  rw [encode_decode_word, loByte_word16, hiByte_word16, ite_self]

/-- Settles O3: whichever length the opcode has, the decoder took that many bytes and the encoder gives them back. -/
theorem encodingADecodedInstructionGivesTheBytes : Obligations.EncodingADecodedInstructionGivesTheBytes := by
  intro bytes i rest hdec
  cases bytes with
  | nil => cases hdec
  | cons op tail =>
    simp only [decodeBytes] at hdec
    split at hdec
    case h_1 hlen | h_2 hlen | h_3 hlen =>
      cases hdec
      rw [encode_decode, hlen]
      rfl
    case h_4 => cases hdec

/-- The twelve byte values that select no instruction (R71). -/
def undefinedOpcodes : List Byte :=
  [0x08#8, 0x10#8, 0x18#8, 0x20#8, 0x28#8, 0x30#8, 0x38#8, 0xCB#8, 0xD9#8, 0xDD#8, 0xED#8, 0xFD#8]

/-- The opcode byte alone tells whether a term is one of the defined instructions (R71, R73). -/
theorem wf_eq_not_contains (i : Instr) : i.wf = !undefinedOpcodes.contains (opcodeOf i) := by cases i <;> rfl

/-- Settles O5: the decoder keeps the opcode byte. -/
theorem exactlyTwelveOpcodesSelectNoInstruction : Obligations.ExactlyTwelveOpcodesSelectNoInstruction := fun op b2 b3 => by
  rw [wf_eq_not_contains, opcodeOf_decode, Bool.not_eq_false', List.contains_iff_mem]
  rfl

end Sys2Proof

/-! PROOF. The canonical form of memory (20_memory section 1, log entry 2): reset gives one, which settles O21, and a canonical
memory is told by what it reads, which settles O22. Two-byte accesses, which settle O24, and the stack primitives
(41_addressing section 2), which settle O28. -/

namespace Sys2Proof.Machine

/-! ## The canonical form -/

/-- Settles O21: the empty list is canonical, and so is the list of the cells that differ from the fill. -/
theorem resetMemoryIsCanonical : Obligations.ResetMemoryIsCanonical :=
  ⟨Memory.wf_nil, fun entry mem0 => State.mem_resetWith entry mem0 ▸ Memory.wf_ofFun mem0⟩

/-- Memory lists every address that does not read as the fill. -/
theorem Memory.mem_of_lookup_ne_memFill {m : Memory} {n : Nat} (h : m.lookup n ≠ Config.memFill) : (n, m.lookup n) ∈ m := by
  induction m with
  | nil => exact absurd rfl h
  | cons c m ih =>
    rw [Memory.lookup] at h ⊢
    split
    case isTrue hc => exact hc ▸ List.mem_cons_self
    case isFalse hc =>
      rw [if_neg hc] at h
      exact List.mem_cons_of_mem c (ih h)

/-- A canonical memory lists exactly the 16-bit addresses that do not read as the fill, each with what it reads as. -/
theorem Memory.mem_iff_of_wf {m : Memory} (h : m.wf) (c : Host.Cell) :
    c ∈ m ↔ c.1 < 65536 ∧ c.2 = m.read (BitVec.ofNat 16 c.1) ∧ c.2 ≠ Config.memFill := by
  have key (hlt : c.1 < 65536) : m.read (BitVec.ofNat 16 c.1) = m.lookup c.1 := by
    rw [Memory.read, BitVec.toNat_ofNat, Nat.mod_eq_of_lt hlt]
  constructor
  · intro hc
    obtain ⟨hlt, hne⟩ := h.2 c hc
    exact ⟨hlt, by rw [key hlt, Memory.lookup_of_mem h hc], hne⟩
  · rintro ⟨hlt, hval, hne⟩
    rw [key hlt] at hval
    rw [← Prod.mk.eta (p := c), hval]
    exact Memory.mem_of_lookup_ne_memFill (hval ▸ hne)

/-- Settles O22: both memories list the same cells, and keys that rise strictly leave one order for them. -/
theorem canonicalMemoriesThatReadAlikeAreEqual : Obligations.CanonicalMemoriesThatReadAlikeAreEqual := by
  intro m m' hwf hwf' hread
  have asymm : Std.Antisymm fun c c' : Host.Cell => c.1 < c'.1 := ⟨fun _ _ h h' => absurd h' (Nat.lt_asymm h)⟩
  have irrefl : Std.Irrefl fun c c' : Host.Cell => c.1 < c'.1 := ⟨fun _ => Nat.lt_irrefl _⟩
  refine List.Pairwise.eq_of_mem_iff hwf.1 hwf'.1 fun c => ?_
  rw [Memory.mem_iff_of_wf hwf, Memory.mem_iff_of_wf hwf', hread]

/-! ## Two-byte accesses -/

/-- The word read at an address, in numbers: the high byte is at the next address, which wraps (R43, R44). -/
theorem State.toNat_read16 (s : State) (addr : Word) :
    (s.read16 addr).toNat = 256 * (s.read (addr + 1)).toNat + (s.read addr).toNat := toNat_word16 _ _

/-- A word written at an address is read back there (R43, R44). -/
theorem State.read16_write16 (s : State) (addr v : Word) : (s.write16 addr v).read16 addr = v := by
  obtain ⟨hlow, hhigh, -⟩ := s.read_write_write_add_one addr (loByte v) (hiByte v)
  rw [State.read16, State.write16, hlow, hhigh, word16_hiByte_loByte]

/-- Settles O24: the word read is its two bytes in numbers, and the two bytes written are those of the word. -/
theorem twoByteAccessesAreLittleEndianAndWrap : Obligations.TwoByteAccessesAreLittleEndianAndWrap := by
  refine ⟨State.toNat_read16, fun s addr v => ?_, fun s => s.toNat_read16 0xFFFF#16⟩
  obtain ⟨hlow, hhigh, hframe⟩ := s.read_write_write_add_one addr (loByte v) (hiByte v)
  exact ⟨(congrArg BitVec.toNat hlow).trans (toNat_loByte v), (congrArg BitVec.toNat hhigh).trans (toNat_hiByte v),
    s.read16_write16 addr v, hframe⟩

/-! ## The stack primitives -/

/-- The word that was pushed is on top of the stack (R128, R129). -/
theorem State.stackTop_push16 (s : State) (v : Word) : (s.push16 v).stackTop = v := by
  have hslot : s.sp - 2 + 1 = s.sp - 1 := by bv_omega
  rw [State.stackTop, State.sp_push16, State.read16, hslot, s.read_push16_high, s.read_push16_low, word16_hiByte_loByte]

/-- Dropping what was pushed leaves SP as it was, and nothing else differs but memory (R128, R129). -/
theorem State.dropTop_push16 (s : State) (v : Word) : (s.push16 v).dropTop = { s with mem := (s.push16 v).mem } := by
  rw [State.dropTop, State.sp_push16, BitVec.sub_add_cancel, State.setSP, State.push16, State.setSP, State.write, State.write]

/-- Settles O28: what a push writes, and what a pop then gives back. -/
theorem pushThenPopReturnsTheWord : Obligations.PushThenPopReturnsTheWord := fun s v =>
  ⟨s.read_push16_high v, s.read_push16_low v, s.sp_push16 v, fun _ => s.read_push16_of_ne v, s.stackTop_push16 v,
    s.dropTop_push16 v⟩

end Sys2Proof.Machine

/-! PROOF. The flag byte (10_state section 8), which settles O26, and PUSH PSW and POP PSW, which settle O56; LHLD and SHLD,
which settle O36; RST, which settles O52; the machine control instructions, which settle O57; the faulting instructions,
which settle O9. -/

namespace Sys2Proof.Machine

/-! ## The flag byte -/

/-- Each bit of the flag byte is the flag or the constant of R22's table, for all thirty-two values of the flags. -/
theorem bits_flagByte (f : Flags) :
    (flagByte f)[7] = f.s ∧ (flagByte f)[6] = f.z ∧ (flagByte f)[5] = false ∧ (flagByte f)[4] = f.ac ∧
      (flagByte f)[3] = false ∧ (flagByte f)[2] = f.p ∧ (flagByte f)[1] = true ∧ (flagByte f)[0] = f.cy := by
  rcases f with ⟨_ | _, _ | _, _ | _, _ | _, _ | _⟩ <;> decide

/-- Packing an unpacked byte keeps the five flag bits and sets the fixed ones, bit by bit (R22, R23; D15). -/
theorem flagByte_flagsOfByte (v : Byte) : flagByte (flagsOfByte v) = v &&& 0xD5#8 ||| 0x02#8 := by
  ext k hk
  interval_cases k <;> simp [bits_flagByte, flagsOfByte]

/-- Settles O26: the layout, and packing and unpacking in either order. -/
theorem flagByteLayout : Obligations.FlagByteLayout :=
  ⟨bits_flagByte, fun _ => rfl, flagsOfByte_flagByte, flagByte_flagsOfByte⟩

/-- The flag byte in numbers (R22). -/
theorem flagByte_eq_ofNat (f : Flags) : flagByte f =
    BitVec.ofNat 8 (128 * f.s.toNat + 64 * f.z.toNat + 16 * f.ac.toNat + 4 * f.p.toNat + 2 + f.cy.toNat) := by
  rcases f with ⟨_ | _, _ | _, _ | _, _ | _, _ | _⟩ <;> rfl

/-- Settles O56: PUSH and POP of the pair that A and the flag byte make. -/
theorem pushAndPopPSW : Obligations.PushAndPopPSW := fun s => by
  rw [← flagByte_eq_ofNat, ← s.hiByte_stackTop, ← s.loByte_stackTop]
  exact ⟨rfl, rfl, exec_ofPush_pushed (p := .psw) rfl, exec_ofPop_eq .psw s⟩

/-! ## LHLD and SHLD -/

/-- LHLD: L, H, PC and cyc, and nothing else (R148). -/
theorem exec_lhld_eq (a16 : Word) (s : State) : exec (.lhld a16) s = .next { s with
    l := s.read a16, h := s.read (a16 + 1), pc := s.pc + 3, cyc := s.cyc + cost 0x2A#8 false } := by
  rw [exec_lhld, loadHL_eq]
  rfl

/-- SHLD: L and H are read back at the address and the next, no other byte changes, and nothing else but PC and cyc (R149). -/
theorem exec_shld_stores (a16 : Word) (s : State) :
    ∃ t, exec (.shld a16) s = .next t ∧ t = { s with mem := t.mem, pc := s.pc + 3, cyc := s.cyc + cost 0x22#8 false } ∧
      t.read a16 = s.l ∧ t.read (a16 + 1) = s.h ∧ ∀ addr, addr ≠ a16 → addr ≠ a16 + 1 → t.read addr = s.read addr := by
  rw [exec_shld, storeHL_eq]
  exact ⟨_, rfl, rfl, s.read_write_write_add_one a16 s.l s.h⟩

/-- Settles O36: the load and the store. -/
theorem loadAndStoreHLDirect : Obligations.LoadAndStoreHLDirect := fun a16 s =>
  ⟨rfl, rfl, exec_lhld_eq a16 s, exec_shld_stores a16 s⟩

/-! ## RST, HLT, EI, DI, NOP and the faults -/

/-- Settles O52: the encoding of the family, and RST as a call of its vector. -/
theorem restarts : Obligations.Restarts := fun n s h => ⟨encode_ofRst n h, exec_ofRst_called h s⟩

/-- Settles O57: each of the four is one update of the state and the closing line. -/
theorem haltEnableDisableAndNop : Obligations.HaltEnableDisableAndNop :=
  ⟨⟨rfl, rfl, rfl, rfl⟩, fun s => ⟨exec_hlt s, exec_ei s, exec_di s, exec_nop s⟩⟩

/-- Settles O9: an instruction with a fault cause raises it; the twelve undefined opcodes have the first cause. -/
theorem faultingInstructionsRaiseTheirFault : Obligations.FaultingInstructionsRaiseTheirFault := by
  have undefinedOpcode : ∀ i ∈ [Instr.undef08, .undef10, .undef18, .undef20, .undef28, .undef30, .undef38, .undefCB,
      .undefD9, .undefDD, .undefED, .undefFD], faultOf i = some .undefinedOpcode := by decide
  exact ⟨exec_of_faultOf rfl, fun _ => exec_of_faultOf rfl, fun _ => exec_of_faultOf rfl,
    fun s i hi => exec_of_faultOf (undefinedOpcode i hi) s, rfl, rfl, rfl⟩

end Sys2Proof.Machine

/-! PROOF. What an instruction may change (47_dispatch_step section 1, the frame rule): nothing outside the tables of R15, R21,
R25 and R131, which settles O15, O16 and O17, and memory stays canonical, which settles O20. Each update of the state stays
within a table that lists what it writes; every instruction is a chain of such updates. -/

namespace Sys2Proof.Machine

/-- `t` differs from `s` at most in what the tables list for the instruction, in PC, INTE, RUN and cyc, and its memory is
canonical if that of `s` is. -/
structure Within (i : Instr) (s t : State) : Prop where
  reg : ∀ r, r ∉ destRegs i → t.reg r = s.reg r
  sp : writesSP i s.flags = false → t.sp = s.sp
  cy : writesCY i = false → t.flags.cy = s.flags.cy
  acszp : writesACSZP i = false →
    t.flags.ac = s.flags.ac ∧ t.flags.s = s.flags.s ∧ t.flags.z = s.flags.z ∧ t.flags.p = s.flags.p
  read : ∀ addr, addr ∉ storesAt i s → t.read addr = s.read addr
  wf : s.mem.wf → t.mem.wf

namespace Within

/-! ## The updates of the state -/

theorem refl (i : Instr) (s : State) : Within i s s :=
  ⟨fun _ _ => rfl, fun _ => rfl, fun _ => rfl, fun _ => ⟨rfl, rfl, rfl, rfl⟩, fun _ _ => rfl, id⟩

section
variable {i : Instr} {s t : State} (h : Within i s t)
include h

theorem setPC (v : Word) : Within i s (t.setPC v) := ⟨h.reg, h.sp, h.cy, h.acszp, h.read, h.wf⟩
theorem charge (op : Byte) (b : Bool) : Within i s (t.charge op b) := ⟨h.reg, h.sp, h.cy, h.acszp, h.read, h.wf⟩
theorem setINTE (b : Bool) : Within i s (t.setINTE b) := ⟨h.reg, h.sp, h.cy, h.acszp, h.read, h.wf⟩
theorem setRUN (v : RunStatus) : Within i s (t.setRUN v) := ⟨h.reg, h.sp, h.cy, h.acszp, h.read, h.wf⟩
theorem advance (op : Byte) : Within i s (t.advance op) := (h.setPC _).charge op false

theorem setSP (hi : writesSP i s.flags = true) (v : Word) : Within i s (t.setSP v) :=
  ⟨h.reg, fun hn => absurd hi (by simp [hn]), h.cy, h.acszp, h.read, h.wf⟩

theorem setCY (hi : writesCY i = true) (b : Bool) : Within i s (t.setCY b) :=
  ⟨h.reg, h.sp, fun hn => absurd hi (by simp [hn]), h.acszp, h.read, h.wf⟩

/-- An instruction that writes AC, S, Z and P either writes CY or gives it back. -/
theorem setFlags (hi : writesACSZP i = true) {f : Flags} (hcy : writesCY i = true ∨ f.cy = t.flags.cy) :
    Within i s (t.setFlags f) :=
  ⟨h.reg, h.sp, fun hn => (hcy.resolve_left (by simp [hn])).trans (h.cy hn), fun hn => absurd hi (by simp [hn]), h.read,
    h.wf⟩

theorem write {addr : Word} (hi : addr ∈ storesAt i s) (v : Byte) : Within i s (t.write addr v) :=
  ⟨h.reg, h.sp, h.cy, h.acszp,
    fun x hx => (t.read_write_of_ne v (ne_of_mem_of_not_mem hi hx).symm).trans (h.read x hx),
    fun hs => State.wf_write (h.wf hs) _ _⟩

theorem setReg {r : Reg8} (hi : r ∈ destRegs i) (v : Byte) : Within i s (t.setReg r v) where
  reg r' hr' := by rw [State.reg_setReg, if_neg (ne_of_mem_of_not_mem hi hr').symm, h.reg r' hr']
  sp := by simpa using h.sp
  cy := by simpa using h.cy
  acszp := by simpa using h.acszp
  read := by simpa using h.read
  wf := by simpa using h.wf

/-! ## The operations made of them -/

theorem writeOp8 {o : Operand8} (hr : o.regs ⊆ destRegs i) (hs : o.stores t ⊆ storesAt i s) (v : Byte) :
    Within i s (t.writeOp8 o v) := by
  cases o with
  | reg r => exact h.setReg (hr (List.mem_singleton_self r)) v
  | mem => exact h.write (hs (List.mem_singleton_self _)) v

theorem setPair {p : RegPair} (hr : p.regs ⊆ destRegs i) (hsp : p = .sp → writesSP i s.flags = true) (v : Word) :
    Within i s (t.setPair p v) := by
  cases p with
  | sp => exact h.setSP (hsp rfl) v
  | bc | de | hl =>
    exact (h.setReg (hr List.mem_cons_self) _).setReg (hr (List.mem_cons_of_mem _ List.mem_cons_self)) _

theorem write16 {addr : Word} (hlow : addr ∈ storesAt i s) (hhigh : addr + 1 ∈ storesAt i s) (v : Word) :
    Within i s (t.write16 addr v) := (h.write hlow _).write hhigh _

theorem push16 (hi : writesSP i s.flags = true) (hhigh : t.sp - 1 ∈ storesAt i s) (hlow : t.sp - 2 ∈ storesAt i s)
    (v : Word) : Within i s (t.push16 v) := ((h.write hhigh _).write hlow _).setSP hi _

theorem dropTop (hi : writesSP i s.flags = true) : Within i s t.dropTop := h.setSP hi _

theorem setStackPair {p : StackPair} (hr : p.regs ⊆ destRegs i) (hcy : p = .psw → writesCY i = true)
    (hacszp : p = .psw → writesACSZP i = true) (v : Word) : Within i s (t.setStackPair p v) := by
  cases p with
  | bc => exact h.setPair (p := .bc) hr nofun v
  | de => exact h.setPair (p := .de) hr nofun v
  | hl => exact h.setPair (p := .hl) hr nofun v
  | psw => exact (h.setFlags (hacszp rfl) (.inl (hcy rfl))).setReg (hr (List.mem_singleton_self _)) _

/-- Every ALU operation writes all five flags, and every one but CMP writes A. -/
theorem aluA {o : AluOp} (ha : o ≠ .cmp → .a ∈ destRegs i) (hcy : writesCY i = true) (hacszp : writesACSZP i = true)
    (op v : Byte) : Within i s (aluA o op v t) := by
  cases o with
  | cmp => exact (h.setFlags hacszp (.inl hcy)).advance op
  | add | adc | sub | sbb | ana | xra | ora =>
    exact ((h.setFlags hacszp (.inl hcy)).setReg (ha nofun) _).advance op

end
end Within

/-! ## The instructions -/

/-- Every instruction stays within its tables, family by family (R15, R21, R25, R131). -/
theorem exec_within (i : Instr) (s : State) : ∃ t, exec i s = .next t ∧ Within i s t := by
  have start := Within.refl i s
  induction i using family_cases with
  | mov dst src h =>
    exact ⟨_, exec_ofMov dst src s h,
      (start.writeOp8 (by simp) (by simp [storesAt_ofMov dst src s h]) _).advance _⟩
  | mvi v dst => exact ⟨_, exec_ofMvi v dst s, (start.writeOp8 (by simp) (by simp) _).advance _⟩
  | inr dst =>
    exact ⟨_, exec_ofInr dst s,
      ((start.setFlags (by simp) (.inr (by rfl))).writeOp8 (by simp) (storesAt_ofInr dst s ▸ List.Subset.refl _)
        _).advance _⟩
  | dcr dst =>
    exact ⟨_, exec_ofDcr dst s,
      ((start.setFlags (by simp) (.inr (by rfl))).writeOp8 (by simp) (storesAt_ofDcr dst s ▸ List.Subset.refl _)
        _).advance _⟩
  | alu o src => exact ⟨_, exec_ofAlu o src s, start.aluA (by simp +contextual) (by simp) (by simp) _ _⟩
  | aluImm v o => exact ⟨_, exec_ofAluImm v o s, start.aluA (by simp +contextual) (by simp) (by simp) _ _⟩
  | lxi v p => exact ⟨_, exec_ofLxi v p s, (start.setPair (by simp) (by simp) _).advance _⟩
  | inx p => exact ⟨_, exec_ofInx p s, (start.setPair (by simp) (by simp) _).advance _⟩
  | dcx p => exact ⟨_, exec_ofDcx p s, (start.setPair (by simp) (by simp) _).advance _⟩
  | dad p =>
    exact ⟨_, exec_ofDad p s,
      ((start.setCY (by simp) _).setPair (p := .hl) (by simp [RegPair.regs]) nofun _).advance _⟩
  | push p => exact ⟨_, exec_ofPush p s, (start.push16 (by simp) (by simp) (by simp) _).advance _⟩
  | pop p =>
    exact ⟨_, exec_ofPop p s, ((start.dropTop (by simp)).setStackPair (by simp) (by simp) (by simp) _).advance _⟩
  | jcc v cond =>
    refine ⟨_, exec_ofJcc v cond s, ?_⟩
    rw [jumpIf]
    split
    · exact (start.setPC _).charge _ _
    · exact start.advance _
  | ccc v cond =>
    refine ⟨_, exec_ofCcc v cond s, ?_⟩
    rw [callIf]
    split
    case isTrue h => exact ((start.push16 (by simp [h]) (by simp [h]) (by simp [h]) _).setPC _).charge _ _
    case isFalse => exact start.advance _
  | rcc cond =>
    refine ⟨_, exec_ofRcc cond s, ?_⟩
    rw [returnIf]
    split
    case isTrue h => exact ((start.dropTop (by simp [h])).setPC _).charge _ _
    case isFalse => exact start.advance _
  | rst n h =>
    have hs := storesAt_ofRst s h
    exact ⟨_, exec_ofRst s h,
      ((start.push16 (writesSP_ofRst _ h) (by simp [hs]) (by simp [hs]) _).setPC _).charge _ _⟩
  | nop => exact ⟨_, exec_nop s, start.advance _⟩
  | staxB => exact ⟨_, exec_staxB s, (start.write (List.mem_singleton_self _) _).advance _⟩
  | staxD => exact ⟨_, exec_staxD s, (start.write (List.mem_singleton_self _) _).advance _⟩
  | sta v => exact ⟨_, exec_sta v s, (start.write (List.mem_singleton_self _) _).advance _⟩
  | shld v =>
    exact ⟨_, exec_shld v s,
      (start.write16 List.mem_cons_self (List.mem_cons_of_mem _ List.mem_cons_self) _).advance _⟩
  | ldaxB => exact ⟨_, exec_ldaxB s, (start.setReg (List.mem_singleton_self _) _).advance _⟩
  | ldaxD => exact ⟨_, exec_ldaxD s, (start.setReg (List.mem_singleton_self _) _).advance _⟩
  | lda v => exact ⟨_, exec_lda v s, (start.setReg (List.mem_singleton_self _) _).advance _⟩
  | lhld v => exact ⟨_, exec_lhld v s, (start.setPair (p := .hl) (List.Subset.refl _) nofun _).advance _⟩
  | cma => exact ⟨_, exec_cma s, (start.setReg (List.mem_singleton_self _) _).advance _⟩
  | rlc => exact ⟨_, exec_rlc s, ((start.setCY rfl _).setReg (List.mem_singleton_self _) _).advance _⟩
  | rrc => exact ⟨_, exec_rrc s, ((start.setCY rfl _).setReg (List.mem_singleton_self _) _).advance _⟩
  | ral => exact ⟨_, exec_ral s, ((start.setCY rfl _).setReg (List.mem_singleton_self _) _).advance _⟩
  | rar => exact ⟨_, exec_rar s, ((start.setCY rfl _).setReg (List.mem_singleton_self _) _).advance _⟩
  | stc => exact ⟨_, exec_stc s, (start.setCY rfl _).advance _⟩
  | cmc => exact ⟨_, exec_cmc s, (start.setCY rfl _).advance _⟩
  | hlt => exact ⟨_, exec_hlt s, (start.setRUN _).advance _⟩
  | jmp v => exact ⟨_, exec_jmp v s, (start.setPC _).charge _ _⟩
  | pchl => exact ⟨_, exec_pchl s, (start.setPC _).charge _ _⟩
  | ret => exact ⟨_, exec_ret s, ((start.dropTop rfl).setPC _).charge _ _⟩
  | call v =>
    exact ⟨_, exec_call v s,
      ((start.push16 rfl List.mem_cons_self (List.mem_cons_of_mem _ List.mem_cons_self) _).setPC _).charge _ _⟩
  | xthl =>
    exact ⟨_, exec_xthl s,
      ((start.write16 List.mem_cons_self (List.mem_cons_of_mem _ List.mem_cons_self) _).setPair (p := .hl)
        (List.Subset.refl _) nofun _).advance _⟩
  | xchg =>
    exact ⟨_, exec_xchg s, ((start.setPair (p := .hl) (by decide) nofun _).setPair (p := .de)
      (by decide) nofun _).advance _⟩
  | sphl => exact ⟨_, exec_sphl s, (start.setSP rfl _).advance _⟩
  | di => exact ⟨_, exec_di s, (start.setINTE _).advance _⟩
  | ei => exact ⟨_, exec_ei s, (start.setINTE _).advance _⟩
  | fault i cause h => exact ⟨_, exec_of_faultOf h s, start.setRUN _⟩

/-- What an instruction leads to is within its tables. -/
theorem within_of_exec {i : Instr} {s t : State} (h : exec i s = .next t) : Within i s t := by
  obtain ⟨u, hu, hwithin⟩ := exec_within i s
  cases h.symm.trans hu
  exact hwithin

/-- Settles O15: an instruction stays within the flags of R25's table. -/
theorem flagsFrame : Obligations.FlagsFrame := fun _ _ _ h => ⟨(within_of_exec h).cy, (within_of_exec h).acszp⟩

/-- Settles O16: it stays within the registers of R21's table, and within R15's list for SP. -/
theorem registersFrame : Obligations.RegistersFrame := fun _ _ _ h => ⟨(within_of_exec h).reg, (within_of_exec h).sp⟩

/-- Settles O17: it stays within the addresses of R131's table. -/
theorem memoryFrame : Obligations.MemoryFrame := fun _ _ _ h => (within_of_exec h).read

/-- Settles O20: a step is the execution of an instruction, or changes nothing. -/
theorem everyStepKeepsMemoryCanonical : Obligations.EveryStepKeepsMemoryCanonical := fun s t hwf hstep => by
  obtain ⟨-, hexec⟩ | ⟨-, rfl⟩ := step_cases hstep
  · exact (within_of_exec hexec).wf hwf
  · exact hwf

end Sys2Proof.Machine

/-! PROOF. How an instruction ends (47_dispatch_step sections 1 and 2): PC, which settles O18, and cyc, which settles O13, with
the costs of the default table, which settle O14; RUN, which settles O7, O8 and O10. -/

namespace Sys2Proof.Machine

/-! ## The two endings -/

/-- `t` has the PC, cyc and RUN of an instruction that does not fault: PC at the target of its rule, or at the next
instruction (R14); cyc charged by the outcome (R261); RUN as before unless it is HLT (R17). -/
structure Ends (i : Instr) (s t : State) : Prop where
  pc : t.pc = (targetOf i s).getD (s.next (opcodeOf i))
  cyc : t.cyc = s.cyc + cost (opcodeOf i) (taken i s.flags)
  run : i ≠ .hlt → t.run = s.run

/-- An instruction that transfers no control ends by advancing, after updates that leave PC, cyc and RUN. -/
theorem ends_advance {i : Instr} {s u : State} (hexec : exec i s = .next (u.advance (opcodeOf i)))
    (hu : u.pc = s.pc ∧ u.cyc = s.cyc ∧ u.run = s.run) (htarget : targetOf i s = none) (htaken : taken i s.flags = false) :
    ∃ t, exec i s = .next t ∧ Ends i s t := by
  obtain ⟨hpc, hcyc, hrun⟩ := hu
  refine ⟨_, hexec, ?_, ?_, fun _ => hrun⟩
  · rw [htarget]
    exact State.next_congr hpc _
  · rw [htaken]
    exact congrArg (· + _) hcyc

/-- An instruction that transfers control sets PC to its target, after updates that leave cyc and RUN. -/
theorem ends_transfer {i : Instr} {s u : State} {target : Word} {b : Bool}
    (hexec : exec i s = .next ((u.setPC target).charge (opcodeOf i) b))
    (hu : u.cyc = s.cyc ∧ u.run = s.run) (htarget : targetOf i s = some target) (htaken : taken i s.flags = b) :
    ∃ t, exec i s = .next t ∧ Ends i s t := by
  obtain ⟨hcyc, hrun⟩ := hu
  refine ⟨_, hexec, ?_, ?_, fun _ => hrun⟩
  · rw [htarget]
    rfl
  · rw [htaken]
    exact congrArg (· + _) hcyc

/-- Every ALU operation ends by advancing (R160 to R171, R190 to R201). -/
theorem aluA_eq_advance (o : AluOp) (op v : Byte) (s : State) :
    ∃ u : State, aluA o op v s = u.advance op ∧ u.pc = s.pc ∧ u.cyc = s.cyc ∧ u.run = s.run := by
  cases o <;> exact ⟨_, rfl, rfl, rfl, rfl⟩

/-- Every instruction that does not fault ends so, family by family (R261). -/
theorem exec_ends (i : Instr) (s : State) (hfault : faultOf i = none) : ∃ t, exec i s = .next t ∧ Ends i s t := by
  induction i using family_cases with
  | mov dst src h => exact ends_advance (exec_ofMov dst src s h) (by simp) (by simp) (by simp [taken])
  | mvi v dst => exact ends_advance (exec_ofMvi v dst s) (by simp) (by simp) (by simp [taken])
  | inr dst => exact ends_advance (exec_ofInr dst s) (by simp) (by simp) (by simp [taken])
  | dcr dst => exact ends_advance (exec_ofDcr dst s) (by simp) (by simp) (by simp [taken])
  | alu o src =>
    obtain ⟨u, hu, hsame⟩ := aluA_eq_advance o (opcodeOf (.ofAlu o src)) (s.readOp8 src) s
    exact ends_advance (by rw [exec_ofAlu, hu]) hsame (by simp) (by simp [taken])
  | aluImm v o =>
    obtain ⟨u, hu, hsame⟩ := aluA_eq_advance o (opcodeOf (.ofAluImm v o)) v s
    exact ends_advance (by rw [exec_ofAluImm, hu]) hsame (by simp) (by simp [taken])
  | lxi v p => exact ends_advance (exec_ofLxi v p s) (by simp) (by simp) (by simp [taken])
  | inx p => exact ends_advance (exec_ofInx p s) (by simp) (by simp) (by simp [taken])
  | dcx p => exact ends_advance (exec_ofDcx p s) (by simp) (by simp) (by simp [taken])
  | dad p => exact ends_advance (exec_ofDad p s) (by simp) (by simp) (by simp [taken])
  | push p => exact ends_advance (exec_ofPush p s) (by simp) (by simp) (by simp [taken])
  | pop p => exact ends_advance (exec_ofPop p s) (by simp) (by simp) (by simp [taken])
  | jcc v cond =>
    cases h : condHolds s.flags cond with
    | true =>
      exact ends_transfer (u := s) (by rw [exec_ofJcc, jumpIf, if_pos h]) ⟨rfl, rfl⟩ (by simp [h])
        (by simp [taken, h])
    | false =>
      exact ends_advance (by rw [exec_ofJcc, jumpIf, if_neg (by simp [h])]) ⟨rfl, rfl, rfl⟩ (by simp [h])
        (by simp [taken, h])
  | ccc v cond =>
    cases h : condHolds s.flags cond with
    | true =>
      exact ends_transfer (u := s.push16 _) (by rw [exec_ofCcc, callIf, if_pos h]) ⟨rfl, rfl⟩ (by simp [h])
        (by simp [taken, h])
    | false =>
      exact ends_advance (by rw [exec_ofCcc, callIf, if_neg (by simp [h])]) ⟨rfl, rfl, rfl⟩ (by simp [h])
        (by simp [taken, h])
  | rcc cond =>
    cases h : condHolds s.flags cond with
    | true =>
      exact ends_transfer (u := s.dropTop) (by rw [exec_ofRcc, returnIf, if_pos h]) ⟨rfl, rfl⟩ (by simp [h])
        (by simp [taken, h])
    | false =>
      exact ends_advance (by rw [exec_ofRcc, returnIf, if_neg (by simp [h])]) ⟨rfl, rfl, rfl⟩ (by simp [h])
        (by simp [taken, h])
  | rst n h =>
    exact ends_transfer (exec_ofRst s h) (by simp) (targetOf_ofRst s h) (by simp [taken, condOf_ofRst h])
  | hlt => exact ⟨_, exec_hlt s, rfl, congrArg (s.cyc + cost · false) rfl, fun h => absurd rfl h⟩
  | jmp v => exact ends_transfer (exec_jmp v s) ⟨rfl, rfl⟩ rfl rfl
  | pchl => exact ends_transfer (exec_pchl s) ⟨rfl, rfl⟩ rfl rfl
  | ret => exact ends_transfer (exec_ret s) ⟨rfl, rfl⟩ rfl rfl
  | call v => exact ends_transfer (exec_call v s) (by simp) rfl rfl
  | nop => exact ends_advance (exec_nop s) ⟨rfl, rfl, rfl⟩ rfl rfl
  | staxB => exact ends_advance (exec_staxB s) ⟨rfl, rfl, rfl⟩ rfl rfl
  | staxD => exact ends_advance (exec_staxD s) ⟨rfl, rfl, rfl⟩ rfl rfl
  | sta v => exact ends_advance (exec_sta v s) ⟨rfl, rfl, rfl⟩ rfl rfl
  | shld v => exact ends_advance (exec_shld v s) (by simp) rfl rfl
  | ldaxB => exact ends_advance (exec_ldaxB s) ⟨rfl, rfl, rfl⟩ rfl rfl
  | ldaxD => exact ends_advance (exec_ldaxD s) ⟨rfl, rfl, rfl⟩ rfl rfl
  | lda v => exact ends_advance (exec_lda v s) ⟨rfl, rfl, rfl⟩ rfl rfl
  | lhld v => exact ends_advance (exec_lhld v s) (by simp) rfl rfl
  | rlc => exact ends_advance (exec_rlc s) ⟨rfl, rfl, rfl⟩ rfl rfl
  | rrc => exact ends_advance (exec_rrc s) ⟨rfl, rfl, rfl⟩ rfl rfl
  | ral => exact ends_advance (exec_ral s) ⟨rfl, rfl, rfl⟩ rfl rfl
  | rar => exact ends_advance (exec_rar s) ⟨rfl, rfl, rfl⟩ rfl rfl
  | cma => exact ends_advance (exec_cma s) ⟨rfl, rfl, rfl⟩ rfl rfl
  | stc => exact ends_advance (exec_stc s) ⟨rfl, rfl, rfl⟩ rfl rfl
  | cmc => exact ends_advance (exec_cmc s) ⟨rfl, rfl, rfl⟩ rfl rfl
  | xthl => exact ends_advance (exec_xthl s) (by simp) rfl rfl
  | xchg => exact ends_advance (exec_xchg s) (by simp) rfl rfl
  | sphl => exact ends_advance (exec_sphl s) ⟨rfl, rfl, rfl⟩ rfl rfl
  | di => exact ends_advance (exec_di s) ⟨rfl, rfl, rfl⟩ rfl rfl
  | ei => exact ends_advance (exec_ei s) ⟨rfl, rfl, rfl⟩ rfl rfl
  | fault i cause h => exact absurd hfault (by simp [h])


/-- What an instruction that does not fault leads to. -/
theorem ends_of_exec {i : Instr} {s t : State} (h : exec i s = .next t) (hfault : faultOf i = none) : Ends i s t := by
  obtain ⟨u, hu, hends⟩ := exec_ends i s hfault
  cases h.symm.trans hu
  exact hends

/-- What an instruction with a fault cause leads to (R281). -/
theorem eq_raiseFault_of_exec {i : Instr} {s t : State} {cause : Fault} (h : exec i s = .next t)
    (hfault : faultOf i = some cause) : t = s.raiseFault cause := by
  cases h.symm.trans (exec_of_faultOf hfault s)
  rfl

/-! ## PC -/

/-- The encoding has as many bytes as its opcode byte says (R60, R74). -/
theorem length_encode (i : Instr) : (encode i).length = opcodeLength (opcodeOf i) := by cases i <;> rfl

/-- Settles O18: PC of an instruction that ends, and the tables of one that faults. -/
theorem programCounterRule : Obligations.ProgramCounterRule := by
  intro i s t h
  cases hfault : faultOf i with
  | some cause =>
    have ht := eq_raiseFault_of_exec h hfault
    obtain ⟨-, -, -, -, -, -, htarget⟩ := no_effects_of_faultOf hfault s
    exact ⟨by simp [htarget], nofun, fun _ => ht ▸ rfl⟩
  | none =>
    have hpc := (ends_of_exec h hfault).pc
    refine ⟨fun target htarget => ?_, fun htarget _ => ?_, fun hne => absurd rfl hne⟩
    · rw [hpc, htarget, Option.getD_some]
    · rw [hpc, htarget, Option.getD_none, length_encode, State.next]

/-! ## The fault cause of an opcode byte -/

/-- The fault cause of an opcode byte (R71, R280). -/
def faultOfOpcode (op : Byte) : Option Fault :=
  if undefinedOpcodes.contains op then some .undefinedOpcode
  else if op == 0x27#8 then some .notImplementedDAA
  else if op == 0xDB#8 || op == 0xD3#8 then some .notImplementedIO
  else none

/-- The opcode byte alone tells whether an instruction faults, and with which cause (R280). -/
theorem faultOf_eq_faultOfOpcode (i : Instr) : faultOf i = faultOfOpcode (opcodeOf i) := by cases i <;> rfl

/-! ## The charge -/

/-- In the default table every opcode that is charged costs something (R312, log entry 3). -/
theorem cost_pos (op : Byte) (b : Bool) (h : faultOfOpcode op = none) : 0 < cost op b := by
  have positive : ∀ n < 256, faultOfOpcode (BitVec.ofNat 8 n) = none → 0 < cost (BitVec.ofNat 8 n) b := by
    intro n hn
    interval_cases n <;> cases b <;> decide
  exact Byte.forall_of_ofNat (P := fun op => faultOfOpcode op = none → 0 < cost op b) positive op h

/-- Settles O13: the charge of an instruction that ends, which is not 0; a fault charges nothing. -/
theorem everyCompletingInstructionAddsItsCost : Obligations.EveryCompletingInstructionAddsItsCost := by
  intro i s t h
  cases hfault : faultOf i with
  | some cause => exact ⟨nofun, fun _ => eq_raiseFault_of_exec h hfault ▸ rfl⟩
  | none =>
    have hcyc := (ends_of_exec h hfault).cyc
    have hpos := cost_pos (opcodeOf i) (taken i s.flags) (faultOf_eq_faultOfOpcode i ▸ hfault)
    exact ⟨fun _ => ⟨hcyc, by omega⟩, fun hne => absurd rfl hne⟩

/-! ## The costs of the default table -/

/-- A cost read off the opcode byte. The operands are no part of it: once the byte is known the table is closed. -/
theorem cost_of_opcodeOf {i : Instr} {op : Byte} {b : Bool} {n : Nat} (hop : opcodeOf i = op) (hcost : cost op b = n) :
    cost (opcodeOf i) b = n := hop ▸ hcost

/-! The opcode byte of each family with an immediate operand, whatever that operand is (R61). -/

theorem opcodeOf_ofMvi (v : Byte) (dst : Operand8) : opcodeOf (.ofMvi v dst) = BitVec.ofNat 8 (0b00000110 + 8 * dst.code) := by
  rw [opcodeOf, encode_ofMvi, List.headD_cons]
theorem opcodeOf_ofLxi (v : Word) (p : RegPair) : opcodeOf (.ofLxi v p) = BitVec.ofNat 8 (0b00000001 + 16 * p.code) := by
  rw [opcodeOf, encode_ofLxi, List.headD_cons]
theorem opcodeOf_ofAluImm (v : Byte) (o : AluOp) : opcodeOf (.ofAluImm v o) = BitVec.ofNat 8 (0b11000110 + 8 * o.code) := by
  rw [opcodeOf, encode_ofAluImm, List.headD_cons]
theorem opcodeOf_ofJcc (v : Word) (cond : Cond) : opcodeOf (.ofJcc v cond) = BitVec.ofNat 8 (0b11000010 + 8 * cond.code) := by
  rw [opcodeOf, encode_ofJcc, List.headD_cons]
theorem opcodeOf_ofCcc (v : Word) (cond : Cond) : opcodeOf (.ofCcc v cond) = BitVec.ofNat 8 (0b11000100 + 8 * cond.code) := by
  rw [opcodeOf, encode_ofCcc, List.headD_cons]

/-- RST costs the same for every restart number; a number above 7 is read as 7. -/
theorem cost_ofRst (n : Nat) : cost (opcodeOf (.ofRst n)) false = 11 := by
  obtain _ | _ | _ | _ | _ | _ | _ | n := n
  case succ.succ.succ.succ.succ.succ.succ => exact cost_of_opcodeOf (op := 0xFF#8) rfl rfl
  all_goals rfl

/-- Settles O14: the opcode byte of each family, looked up in the table. -/
theorem costsOfTheDefaultTable : Obligations.CostsOfTheDefaultTable := by
  refine ⟨fun dst src => ?mov, fun r => ?movM, fun v r => ?mvi, fun v p => ?lxi, fun v => ?direct, ?indirect, fun o r => ?alu,
    fun v o => ?aluImm, fun r => ?inrDcr, rfl, rfl, fun p => ?pairs, ?four, fun v cond taken => ?jumps, fun v cond => ?calls,
    fun cond => ?returns, cost_ofRst, fun p => ?stack, rfl, rfl, rfl, rfl⟩
  case mov => cases dst <;> cases src <;> rfl
  case movM => cases r <;> exact ⟨rfl, rfl⟩
  case mvi =>
    rw [opcodeOf_ofMvi, opcodeOf_ofMvi]
    cases r <;> exact ⟨rfl, rfl⟩
  case lxi =>
    rw [opcodeOf_ofLxi]
    cases p <;> rfl
  case direct =>
    exact ⟨cost_of_opcodeOf (op := 0x3A#8) rfl rfl, cost_of_opcodeOf (op := 0x32#8) rfl rfl,
      cost_of_opcodeOf (op := 0x2A#8) rfl rfl, cost_of_opcodeOf (op := 0x22#8) rfl rfl⟩
  case indirect => decide
  case alu => cases o <;> cases r <;> exact ⟨rfl, rfl⟩
  case aluImm =>
    rw [opcodeOf_ofAluImm]
    cases o <;> rfl
  case inrDcr => cases r <;> exact ⟨rfl, rfl⟩
  case pairs => cases p <;> exact ⟨rfl, rfl, rfl⟩
  case four => decide
  case jumps =>
    rw [opcodeOf_ofJcc]
    exact ⟨cost_of_opcodeOf (op := 0xC3#8) rfl rfl, by cases cond <;> cases taken <;> rfl⟩
  case calls =>
    rw [opcodeOf_ofCcc]
    exact ⟨cost_of_opcodeOf (op := 0xCD#8) rfl rfl, by cases cond <;> exact ⟨rfl, rfl⟩⟩
  case returns => cases cond <;> exact ⟨rfl, rfl, rfl⟩
  case stack => cases p <;> exact ⟨rfl, rfl⟩

/-! ## RUN -/

/-- RUN after an instruction: its fault, Halted after HLT, else as before (R17, R250, R281). -/
theorem run_of_exec {i : Instr} {s t : State} (h : exec i s = .next t) :
    t.run = if i = .hlt then .halted else (faultOf i).elim s.run .faulted := by
  by_cases hhlt : i = .hlt
  · subst hhlt
    cases h
    rfl
  · rw [if_neg hhlt]
    cases hfault : faultOf i with
    | some cause => exact eq_raiseFault_of_exec h hfault ▸ rfl
    | none => exact (ends_of_exec h hfault).run hhlt

/-- RUN after a Running core's step with an opcode byte at PC (R17, R250, R280). -/
def runOfOpcode (op : Byte) : RunStatus :=
  if op = 0x76#8 then .halted else (faultOfOpcode op).elim .running .faulted

theorem fetch_eq_hlt_iff (s : State) : s.fetch = .hlt ↔ s.read s.pc = 0x76#8 :=
  ⟨fun h => by rw [← opcodeOf_fetch, h]; rfl, fun h => by rw [State.fetch, h]; rfl⟩

/-- The opcode byte at PC alone tells RUN after the step of a Running core. -/
theorem run_of_step {s t : State} (hrun : s.run = .running) (h : step s = .next t) : t.run = runOfOpcode (s.read s.pc) := by
  rw [step_running hrun] at h
  rw [run_of_exec h, faultOf_eq_faultOfOpcode, opcodeOf_fetch, hrun]
  simp only [fetch_eq_hlt_iff]
  rfl

/-- Which bytes halt, and which fault with each cause: a finite table (R71, R280). -/
theorem runOfOpcode_iff (op : Byte) :
    (runOfOpcode op = .halted ↔ op = 0x76#8) ∧
    (runOfOpcode op = .faulted .undefinedOpcode ↔ op ∈ undefinedOpcodes) ∧
    (runOfOpcode op = .faulted .notImplementedDAA ↔ op = 0x27#8) ∧
    (runOfOpcode op = .faulted .notImplementedIO ↔ op = 0xDB#8 ∨ op = 0xD3#8) := by
  induction op using Byte.forall_of_ofNat with
  | h n hn => interval_cases n <;> decide

/-- Settles O7: the table of RUN by the opcode byte at PC. -/
theorem runStatusFollowsTheOpcode : Obligations.RunStatusFollowsTheOpcode := by
  intro s hrun
  obtain ⟨t, ht⟩ := step_next s
  refine ⟨t, ht, ?_⟩
  rw [run_of_step hrun ht]
  exact runOfOpcode_iff _

/-- Settles O8: RUN becomes Faulted only by an instruction with a fault cause, which changes nothing else. -/
theorem aFaultChangesNothingButRun : Obligations.AFaultChangesNothingButRun := by
  intro s t cause hrun hstep hfaulted
  rw [step_running hrun] at hstep
  cases hfault : faultOf s.fetch with
  | some cause' =>
    cases eq_raiseFault_of_exec hstep hfault
    cases hfaulted
    rfl
  | none =>
    have notFaulted := run_of_exec hstep
    rw [hfaulted, hfault, Option.elim_none, hrun] at notFaulted
    split at notFaulted <;> cases notFaulted

/-- A run of one more step is the run from where that step leads (R268). -/
theorem runFor_succ {s t : State} (h : step s = .next t) (n : Nat) : runFor (n + 1) s = runFor n t := by
  simp [runFor, Host.Core.run, core, h]

/-- Settles O10: no step of the run changes the state. -/
theorem haltedAndFaultedAreTerminal : Obligations.HaltedAndFaultedAreTerminal := by
  intro n s hrun
  induction n with
  | zero => rfl
  | succ n ih => rw [runFor_succ (step_not_running hrun), ih]

end Sys2Proof.Machine

/-! PROOF. Nothing reads cyc (R19), which settles O12, and only PUSH PSW reads AC (R25), which settles O19. Every operation of
the state commutes with setting both, so every shared operation does, up to the AC it writes and the cost it charges. -/

namespace Sys2Proof.Machine

/-- The state with another AC and another cyc. -/
def State.withACCyc (s : State) (b : Bool) (n : Nat) : State := { s with flags := { s.flags with ac := b }, cyc := n }

/-! ## Reading the state does not see AC and cyc -/

@[simp] theorem condHolds_withACCyc (s : State) (b : Bool) (n : Nat) (cond : Cond) :
    condHolds (s.withACCyc b n).flags cond = condHolds s.flags cond := (condHolds_of_other_flag s.flags cond b).1
@[simp] theorem State.pair_withACCyc (s : State) (b : Bool) (n : Nat) (p : RegPair) :
    (s.withACCyc b n).pair p = s.pair p := by cases p <;> rfl
@[simp] theorem State.next_withACCyc (s : State) (b : Bool) (n : Nat) (op : Byte) :
    (s.withACCyc b n).next op = s.next op := rfl
@[simp] theorem State.readOp8_withACCyc (s : State) (b : Bool) (n : Nat) (o : Operand8) :
    (s.withACCyc b n).readOp8 o = s.readOp8 o := by
  cases o with
  | reg r => cases r <;> rfl
  | mem => rfl

/-! ## Updating the state commutes with setting AC and cyc -/

@[simp] theorem State.setPair_withACCyc (s : State) (b : Bool) (n : Nat) (p : RegPair) (v : Word) :
    (s.withACCyc b n).setPair p v = (s.setPair p v).withACCyc b n := by cases p <;> rfl
@[simp] theorem State.writeOp8_withACCyc (s : State) (b : Bool) (n : Nat) (o : Operand8) (v : Byte) :
    (s.withACCyc b n).writeOp8 o v = (s.writeOp8 o v).withACCyc b n := by
  cases o with
  | reg r => cases r <;> rfl
  | mem => rfl
@[simp] theorem State.push16_withACCyc (s : State) (b : Bool) (n : Nat) (v : Word) :
    (s.withACCyc b n).push16 v = (s.push16 v).withACCyc b n := rfl
@[simp] theorem State.setPC_withACCyc (s : State) (b : Bool) (n : Nat) (v : Word) :
    (s.withACCyc b n).setPC v = (s.setPC v).withACCyc b n := rfl
@[simp] theorem State.charge_withACCyc (s : State) (b : Bool) (n : Nat) (op : Byte) (taken : Bool) :
    (s.withACCyc b n).charge op taken = (s.charge op taken).withACCyc b (n + cost op taken) := rfl
@[simp] theorem State.advance_withACCyc (s : State) (b : Bool) (n : Nat) (op : Byte) :
    (s.withACCyc b n).advance op = (s.advance op).withACCyc b (n + cost op false) := rfl

/-! ## The operations that write AC, or read a flag -/

theorem increment_withACCyc (op : Byte) (o : Operand8) (s : State) (b : Bool) (n : Nat) :
    increment op o (s.withACCyc b n) =
      (increment op o s).withACCyc (increment op o s).flags.ac (n + cost op false) := by
  cases o with
  | reg r => cases r <;> rfl
  | mem => rfl

theorem decrement_withACCyc (op : Byte) (o : Operand8) (s : State) (b : Bool) (n : Nat) :
    decrement op o (s.withACCyc b n) =
      (decrement op o s).withACCyc (decrement op o s).flags.ac (n + cost op false) := by
  cases o with
  | reg r => cases r <;> rfl
  | mem => rfl

theorem aluA_withACCyc (o : AluOp) (op v : Byte) (s : State) (b : Bool) (n : Nat) :
    aluA o op v (s.withACCyc b n) = (aluA o op v s).withACCyc (aluA o op v s).flags.ac (n + cost op false) := by
  cases o <;> rfl

/-- DAD writes CY alone of the flags (R178). -/
theorem addPair_withACCyc (op : Byte) (p : RegPair) (s : State) (b : Bool) (n : Nat) :
    addPair op p (s.withACCyc b n) = (addPair op p s).withACCyc b (n + cost op false) := by cases p <;> rfl

/-- The flag byte of PUSH PSW is the only place where AC is read (R22, R241). -/
theorem push_withACCyc (op : Byte) (p : StackPair) (s : State) (b : Bool) (n : Nat) (h : p = .psw → b = s.flags.ac) :
    push op p (s.withACCyc b n) = (push op p s).withACCyc b (n + cost op false) := by
  cases p with
  | psw => rw [h rfl]; rfl
  | bc | de | hl => rfl

/-- POP PSW writes AC, the other pairs do not (R242, R243). -/
theorem pop_withACCyc (op : Byte) (p : StackPair) (s : State) (b : Bool) (n : Nat) :
    pop op p (s.withACCyc b n) =
      (pop op p s).withACCyc (if p = .psw then (pop op p s).flags.ac else b) (n + cost op false) := by cases p <;> rfl

/-- No condition tests AC (R228). -/
theorem jumpIf_withACCyc (op : Byte) (cond : Cond) (target : Word) (s : State) (b : Bool) (n : Nat) :
    jumpIf op cond target (s.withACCyc b n) =
      (jumpIf op cond target s).withACCyc b (n + cost op (condHolds s.flags cond)) := by
  cases h : condHolds s.flags cond <;> simp [jumpIf, h]

theorem callIf_withACCyc (op : Byte) (cond : Cond) (target : Word) (s : State) (b : Bool) (n : Nat) :
    callIf op cond target (s.withACCyc b n) =
      (callIf op cond target s).withACCyc b (n + cost op (condHolds s.flags cond)) := by
  cases h : condHolds s.flags cond <;> simp [callIf, h]

theorem returnIf_withACCyc (op : Byte) (cond : Cond) (s : State) (b : Bool) (n : Nat) :
    returnIf op cond (s.withACCyc b n) =
      (returnIf op cond s).withACCyc b (n + cost op (condHolds s.flags cond)) := by
  cases h : condHolds s.flags cond
  · simp [returnIf, h]
  · simp [returnIf, h]
    rfl

/-! ## The instructions -/

/-- What the execution of an instruction adds to cyc: its cost, or nothing if it faults (R261, R281). -/
def chargeOf (i : Instr) (f : Flags) : Nat := if faultOf i = none then cost (opcodeOf i) (taken i f) else 0

/-- On a state with another AC and another cyc the operation does the same and adds the charge of the instruction to cyc; the
other AC stays unless the instruction writes AC. For PUSH PSW this is said of the same AC only. -/
def IgnoresACCyc (i : Instr) (f : State → State) : Prop :=
  ∀ (s : State) (b : Bool) (n : Nat), (i = .pushPSW → b = s.flags.ac) →
    f (s.withACCyc b n) =
      (f s).withACCyc (if writesACSZP i then (f s).flags.ac else b) (n + chargeOf i s.flags)

/-- Every instruction is an operation that ignores AC and cyc, family by family (R19, R25). -/
theorem exec_ignoresACCyc (i : Instr) : ∃ f, IgnoresACCyc i f ∧ ∀ s, exec i s = .next (f s) := by
  induction i using family_cases with
  | mov dst src h => exact ⟨_, fun s b n _ => by simp [mov, chargeOf, taken], fun s => exec_ofMov dst src s h⟩
  | mvi v dst => exact ⟨_, fun s b n _ => by simp [moveImm, chargeOf, taken], exec_ofMvi v dst⟩
  | inr dst => exact ⟨_, fun s b n _ => by rw [increment_withACCyc]; simp [chargeOf, taken], exec_ofInr dst⟩
  | dcr dst => exact ⟨_, fun s b n _ => by rw [decrement_withACCyc]; simp [chargeOf, taken], exec_ofDcr dst⟩
  | alu o src => exact ⟨_, fun s b n _ => by simp [aluA_withACCyc, chargeOf, taken], exec_ofAlu o src⟩
  | aluImm v o => exact ⟨_, fun s b n _ => by simp [aluA_withACCyc, chargeOf, taken], exec_ofAluImm v o⟩
  | lxi v p => exact ⟨_, fun s b n _ => by simp [loadPairImm, chargeOf, taken], exec_ofLxi v p⟩
  | inx p => exact ⟨_, fun s b n _ => by simp [incrementPair, chargeOf, taken], exec_ofInx p⟩
  | dcx p => exact ⟨_, fun s b n _ => by simp [decrementPair, chargeOf, taken], exec_ofDcx p⟩
  | dad p => exact ⟨_, fun s b n _ => by simp [addPair_withACCyc, chargeOf, taken], exec_ofDad p⟩
  | push p =>
    refine ⟨_, fun s b n h => ?_, exec_ofPush p⟩
    rw [push_withACCyc _ _ _ _ _ (by rintro rfl; exact h rfl)]
    simp [chargeOf, taken]
  | pop p => exact ⟨_, fun s b n _ => by simp [pop_withACCyc, chargeOf, taken], exec_ofPop p⟩
  | jcc v cond => exact ⟨_, fun s b n _ => by simp [jumpIf_withACCyc, chargeOf, taken], exec_ofJcc v cond⟩
  | ccc v cond => exact ⟨_, fun s b n _ => by simp [callIf_withACCyc, chargeOf, taken], exec_ofCcc v cond⟩
  | rcc cond => exact ⟨_, fun s b n _ => by simp [returnIf_withACCyc, chargeOf, taken], exec_ofRcc cond⟩
  | rst n h =>
    refine ⟨_, fun s b k _ => ?_, fun s => exec_ofRst s h⟩
    simp [callTo, chargeOf, taken, writesACSZP_ofRst h, faultOf_ofRst h, condOf_ofRst h]
  | xchg => exact ⟨_, fun s b n _ => rfl, exec_xchg⟩
  | fault i cause h =>
    refine ⟨_, fun s b n _ => ?_, exec_of_faultOf h⟩
    obtain ⟨-, -, -, -, -, hac, -⟩ := no_effects_of_faultOf h s
    simp only [hac, chargeOf, h]
    rfl
  | nop => exact ⟨_, fun _ _ _ _ => rfl, exec_nop⟩
  | staxB => exact ⟨_, fun _ _ _ _ => rfl, exec_staxB⟩
  | rlc => exact ⟨_, fun _ _ _ _ => rfl, exec_rlc⟩
  | ldaxB => exact ⟨_, fun _ _ _ _ => rfl, exec_ldaxB⟩
  | rrc => exact ⟨_, fun _ _ _ _ => rfl, exec_rrc⟩
  | staxD => exact ⟨_, fun _ _ _ _ => rfl, exec_staxD⟩
  | ral => exact ⟨_, fun _ _ _ _ => rfl, exec_ral⟩
  | ldaxD => exact ⟨_, fun _ _ _ _ => rfl, exec_ldaxD⟩
  | rar => exact ⟨_, fun _ _ _ _ => rfl, exec_rar⟩
  | shld v => exact ⟨_, fun _ _ _ _ => rfl, exec_shld v⟩
  | lhld v => exact ⟨_, fun _ _ _ _ => rfl, exec_lhld v⟩
  | cma => exact ⟨_, fun _ _ _ _ => rfl, exec_cma⟩
  | sta v => exact ⟨_, fun _ _ _ _ => rfl, exec_sta v⟩
  | stc => exact ⟨_, fun _ _ _ _ => rfl, exec_stc⟩
  | lda v => exact ⟨_, fun _ _ _ _ => rfl, exec_lda v⟩
  | cmc => exact ⟨_, fun _ _ _ _ => rfl, exec_cmc⟩
  | hlt => exact ⟨_, fun _ _ _ _ => rfl, exec_hlt⟩
  | jmp v => exact ⟨_, fun _ _ _ _ => rfl, exec_jmp v⟩
  | ret => exact ⟨_, fun _ _ _ _ => rfl, exec_ret⟩
  | call v => exact ⟨_, fun _ _ _ _ => rfl, exec_call v⟩
  | xthl => exact ⟨_, fun _ _ _ _ => rfl, exec_xthl⟩
  | pchl => exact ⟨_, fun _ _ _ _ => rfl, exec_pchl⟩
  | sphl => exact ⟨_, fun _ _ _ _ => rfl, exec_sphl⟩
  | di => exact ⟨_, fun _ _ _ _ => rfl, exec_di⟩
  | ei => exact ⟨_, fun _ _ _ _ => rfl, exec_ei⟩

/-- The execution from a state with another AC and another cyc. -/
theorem exec_withACCyc {i : Instr} {s t : State} {b : Bool} (n : Nat) (hpsw : i = .pushPSW → b = s.flags.ac)
    (h : exec i s = .next t) : exec i (s.withACCyc b n) =
      .next (t.withACCyc (if writesACSZP i then t.flags.ac else b) (n + chargeOf i s.flags)) := by
  obtain ⟨f, hf, hexec⟩ := exec_ignoresACCyc i
  cases h.symm.trans (hexec s)
  rw [hexec, hf s b n hpsw]

/-- What the execution adds to cyc. -/
theorem cyc_of_exec {i : Instr} {s t : State} (h : exec i s = .next t) : t.cyc = s.cyc + chargeOf i s.flags := by
  cases hfault : faultOf i with
  | none => rw [(ends_of_exec h hfault).cyc, chargeOf, if_pos hfault]
  | some cause =>
    cases eq_raiseFault_of_exec h hfault
    simp [chargeOf, hfault]

/-- Settles O19: the execution from a state with another AC and the same cyc. -/
theorem auxiliaryCarryIsReadOnlyByPushPSW : Obligations.AuxiliaryCarryIsReadOnlyByPushPSW := by
  intro i s t b hpsw h
  have hexec := exec_withACCyc (b := b) s.cyc (fun hi => absurd hi hpsw) h
  rwa [← cyc_of_exec h] at hexec

/-- The execution from a state with another cyc: AC is the same, written or not. -/
theorem exec_withCyc {i : Instr} {s t : State} (n : Nat) (h : exec i s = .next t) :
    exec i { s with cyc := n } = .next { t with cyc := n + (t.cyc - s.cyc) } := by
  have hac : (if writesACSZP i then t.flags.ac else s.flags.ac) = t.flags.ac := by
    split
    case isTrue => rfl
    case isFalse hw =>
      obtain ⟨hac, -⟩ := (within_of_exec h).acszp (Bool.eq_false_of_not_eq_true hw)
      exact hac.symm
  have hcharge : t.cyc - s.cyc = chargeOf i s.flags := by rw [cyc_of_exec h, Nat.add_sub_cancel_left]
  have hexec := exec_withACCyc n (fun _ => rfl) h
  rwa [hac, ← hcharge] at hexec

/-- Settles O12: the fetch does not see cyc, and a core that is not Running keeps it. -/
theorem cycIsReadByNothing : Obligations.CycIsReadByNothing := by
  intro s n
  by_cases hrun : s.run = .running
  · obtain ⟨t, ht⟩ := exec_next s.fetch s
    refine ⟨t, by rw [step_running hrun, ht], ?_⟩
    rw [step_running (by exact hrun)]
    exact exec_withCyc n ht
  · refine ⟨s, step_not_running hrun, ?_⟩
    rw [step_not_running (by exact hrun), Nat.sub_self]
    rfl

end Sys2Proof.Machine
